-- ==== Sys2Proof/Word.lean ====
section
/-! DEFINITION. The word types: what the spec treats as bits (10_state.md R22, R37; 20_memory.md R73). -/

namespace Sys2Proof

/-- One byte of memory, of an encoding or of an OperandValue. -/
abbrev Byte := BitVec 8

/-- 16 bits: a selector, a 16-bit view, a descriptor-table limit. -/
abbrev Half := BitVec 16

/-- 32 bits: a register cell, an offset, a linear address (R8, D4). -/
abbrev Word := BitVec 32

end Sys2Proof
end

