-- ==== Sys2Proof/Machine/Bytes.lean ====
section
/-! DEFINITION. Byte order: little-endian byte sequences and the numbers they stand for (20_memory.md R72, R74). -/

namespace Sys2Proof

/-- The number a byte sequence stands for, byte 0 the least significant (R74). -/
def leNat : List Byte → Nat
  | [] => 0
  | b :: bs => b.toNat + 256 * leNat bs

/-- The `n` low bytes of a number, byte 0 first. -/
def bytesOf : Nat → Nat → List Byte
  | 0, _ => []
  | n + 1, v => BitVec.ofNat 8 v :: bytesOf n (v / 256)

/-- A byte sequence read as a w-bit unsigned value (43_alu.md R185). -/
def valueOf (w : Nat) (bs : List Byte) : BitVec w := BitVec.ofNat w (leNat bs)

/-- Two bytes, the low one first. -/
def le16 (b0 b1 : Byte) : Half := b1 ++ b0

/-- Four bytes, the low one first. -/
def le32 (b0 b1 b2 b3 : Byte) : Word := b3 ++ b2 ++ b1 ++ b0

/-- The bytes of a 16-bit value, the low one first. -/
def Half.bytes (v : Half) : List Byte := [v.extractLsb' 0 8, v.extractLsb' 8 8]

/-- The bytes of a 32-bit value, the low one first. -/
def Word.bytes (v : Word) : List Byte :=
  [v.extractLsb' 0 8, v.extractLsb' 8 8, v.extractLsb' 16 8, v.extractLsb' 24 8]

end Sys2Proof
end

