-- ==== Sys2Proof/Config.lean ====
section
/-! DEFINITION. What is fixed for the machine and not state (00_scope.md R9, 10_state.md R21): the named parameters. -/

namespace Sys2Proof

/-- `AF_SUB(w, a, b, bin)` of 43_alu.md R189: the auxiliary carry of SUB, SBB and DEC. The spec fixes no formula
("a total function of its four arguments into 0 or 1"), so it is a FREE VALUE: a constant with no body (log 3). -/
opaque Config.afSub (w : Nat) (a b : BitVec w) (bin : Bool) : Bool

/-- The reference value of `AF_SUB` (R189), the borrow out of bit 3. The machine never uses it: a claim about the
auxiliary carry may take `Config.afSub = Config.afSubRef` as its premise, as every vector of 95_test_vectors.md does. -/
def Config.afSubRef (w : Nat) (a b : BitVec w) (bin : Bool) : Bool :=
  decide (a.toNat % 16 < b.toNat % 16 + bin.toNat)

/-- The default of the parameter `RESET_EAX` (10_state.md R63). -/
def Config.resetEaxDefault : Word := 0x00000000#32

/-- The default of the parameter `CPU_SIGNATURE` (10_state.md R63): family 4. -/
def Config.cpuSignatureDefault : Word := 0x00000400#32

/-- The most bytes an instruction may have (30_encoding.md R102, R100 `len`). -/
def Config.maxLength : Nat := 15

/-- What line 5 of the dump shows, by its mnemonic: the flags and IOPL (10_state.md R54). -/
inductive DumpFlag where
  | cf | pf | af | zf | sf | tf | fIf | df | of | iopl | nt | rf | vm | ac
  deriving DecidableEq, Repr

/-- The parameter `DUMP_FORMAT` (10_state.md R56, 30_encoding.md R124): the text that R54 and R124 do not give. -/
structure DumpFormat where
  /-- Hexadecimal digits in upper case. -/
  upperCase : Bool
  /-- What stands before every hexadecimal value of the dump. -/
  hexPrefix : String
  /-- Hexadecimal digits of a segment selector. -/
  segmentDigits : Nat
  /-- Hexadecimal digits of a 32-bit value. -/
  wordDigits : Nat
  /-- How lines 2, 3 and 4 of the dump spell the names of their four registers. -/
  line2Names : List String
  line3Names : List String
  line4Names : List String
  /-- Between the name and the value of a register in lines 2 to 4. -/
  assign : String
  /-- Between the items of lines 2 to 4. -/
  itemSeparator : String
  /-- The order of line 5. -/
  flagOrder : List DumpFlag
  /-- Between a flag's mnemonic and its value. -/
  flagAssign : String
  /-- Between the items of line 5. -/
  flagSeparator : String
  /-- The trailing line noting an active exception. -/
  exceptionLine : String
  /-- The trailing line noting a held interrupt. -/
  holdLine : String
  /-- Of two trailing lines the exception's comes first. -/
  exceptionFirst : Bool
  /-- What ends every line of the dump. -/
  lineEnd : String
  /-- Hexadecimal digits of an offset in the disassembly line when CS.addressSize is 16. -/
  shortOffsetDigits : Nat
  /-- The same when CS.addressSize is 32. -/
  longOffsetDigits : Nat
  /-- Hexadecimal digits of an instruction byte in the disassembly line. -/
  byteDigits : Nat
  /-- Between the instruction bytes. -/
  byteSeparator : String
  /-- The column at which the mnemonic text starts, counted from 0. -/
  mnemonicColumn : Nat
  deriving DecidableEq, Repr

/-- The default of `DUMP_FORMAT` (R56, R124); the order of the two trailing lines is log 15's. -/
def Config.dumpFormatDefault : DumpFormat where
  upperCase := true
  hexPrefix := ""
  segmentDigits := 4
  wordDigits := 8
  line2Names := ["EAX", "EBX", "ECX", "EDX"]
  line3Names := ["ESI", "EDI", "EBP", "ESP"]
  line4Names := ["CR0", "CR1", "CR2", "CR3"]
  assign := "="
  itemSeparator := " "
  flagOrder := [.cf, .pf, .af, .zf, .sf, .tf, .fIf, .df, .of, .iopl, .nt, .rf, .vm, .ac]
  flagAssign := ""
  flagSeparator := " "
  exceptionLine := "EXCEPTION"
  holdLine := "HOLD IRQ"
  exceptionFirst := true
  lineEnd := "\n"
  shortOffsetDigits := 4
  longOffsetDigits := 8
  byteDigits := 2
  byteSeparator := ""
  mnemonicColumn := 40

end Sys2Proof
end

