-- ==== Sys2Proof/Syntax.lean ====
section
/-! DEFINITION. The instruction set as data: operand forms, one constructor of Instr per row of spec/opcode_table.json, and the decoded Instruction record (30_encoding.md R100, R101), the normative interface of the block (R7). -/

namespace Sys2Proof

/-- An address size, an operand size of a non-byte form, a segment's default size: 16 or 32 (R37, R105, R106). -/
inductive Size where
  | s16 | s32
  deriving DecidableEq, Repr

/-- The operand width of an operation: `osz` of the record, 8, 16 or 32 (R100, R185). -/
inductive Width where
  | w8 | w16 | w32
  deriving DecidableEq, Repr

/-- The eight general registers in register-field order (10_state.md R22). Each stands for its cell; which view of it
is meant follows from the operand width. -/
inductive Gpr where
  | eax | ecx | edx | ebx | esp | ebp | esi | edi
  deriving DecidableEq, Repr

/-- The eight 8-bit views in register-field order (R23). -/
inductive Reg8 where
  | al | cl | dl | bl | ah | ch | dh | bh
  deriving DecidableEq, Repr

/-- The six segment registers (R36). -/
inductive Sreg where
  | es | cs | ss | ds | fs | gs
  deriving DecidableEq, Repr

/-- The four control registers (R41, R42). -/
inductive Cr where
  | cr0 | cr1 | cr2 | cr3
  deriving DecidableEq, Repr

/-- The base and index registers of a 16-bit memory form with a register, by `rm` (R109). -/
inductive Base16 where
  | bxSi | bxDi | bpSi | bpDi | si | di | bp | bx
  deriving DecidableEq, Repr

/-- The displacement of a 16-bit form: none (mod 00), d8 (mod 01), d16 (mod 10). -/
inductive Disp16 where
  | d0
  | d8 (d : Byte)
  | d16 (d : Half)
  deriving DecidableEq, Repr

/-- The displacement of a 32-bit form: none (mod 00), d8 (mod 01), d32 (mod 10). -/
inductive Disp32 where
  | d0
  | d8 (d : Byte)
  | d32 (d : Word)
  deriving DecidableEq, Repr

/-- The scale of a SIB byte, 2^ss (R111). -/
inductive Scale where
  | x1 | x2 | x4 | x8
  deriving DecidableEq, Repr

/-- A ModRM memory form, as encoded (R109 to R111). Different encodings of one address are different forms, so that an
instruction keeps its exact length. -/
inductive MemForm where
  /-- `[d16]`: mod 00, rm 110. -/
  | direct16 (d : Half)
  /-- A 16-bit form with registers. `[BP]` without displacement has no encoding. -/
  | based16 (b : Base16) (d : Disp16)
  /-- `[d32]`: mod 00, rm 101. -/
  | direct32 (d : Word)
  /-- A 32-bit form without SIB. Base ESP needs a SIB; `[EBP]` without displacement has no encoding. -/
  | based32 (b : Gpr) (d : Disp32)
  /-- A 32-bit form with SIB and a base. Index ESP stands for no index (R111); `[EBP..]` without displacement has no encoding. -/
  | sib32 (sc : Scale) (ix : Gpr) (b : Gpr) (d : Disp32)
  /-- A 32-bit form with SIB and no base: mod 00, base 101. -/
  | sibNoBase (sc : Scale) (ix : Gpr) (d : Word)
  deriving DecidableEq, Repr

/-- An r/m operand of a byte form (R107, R108). -/
inductive Rm8 where
  | reg (r : Reg8)
  | mem (f : MemForm)
  deriving DecidableEq, Repr

/-- An r/m operand of a 16- or 32-bit form. -/
inductive Rmv where
  | reg (r : Gpr)
  | mem (f : MemForm)
  deriving DecidableEq, Repr

/-- The offset of a moffs form (R114). -/
inductive Moffs where
  | o16 (d : Half)
  | o32 (d : Word)
  deriving DecidableEq, Repr

/-- An `iz` immediate (R113). -/
inductive Iz where
  | i16 (v : Half)
  | i32 (v : Word)
  deriving DecidableEq, Repr

/-- The eleven prefix bytes the subset uses (R103). -/
inductive Pfx where
  | es | cs | ss | ds | fs | gs | opsize | adsize | lock | repne | rep
  deriving DecidableEq, Repr

/-- The instruction set: one constructor per row of spec/opcode_table.json (R118), its mnemonic in the docstring.
A row of the table's format `prefix` holds the instruction its byte stands before (log 10). The `x` of the rows 0F 20
to 0F 26 are the ModRM `mod` bits, which the spec says are ignored (R108). -/
inductive Instr where
  /-- `ES:`: ES: (R103). -/
  | segEs (i : Instr)
  /-- `CS:`: CS: (R103). -/
  | segCs (i : Instr)
  /-- `SS:`: SS: (R103). -/
  | segSs (i : Instr)
  /-- `DS:`: DS: (R103). -/
  | segDs (i : Instr)
  /-- `FS:`: FS: (R103). -/
  | segFs (i : Instr)
  /-- `GS:`: GS: (R103). -/
  | segGs (i : Instr)
  /-- `OPSIZE`: OPSIZE (R103). -/
  | opsize (i : Instr)
  /-- `ADSIZE`: ADSIZE (R103). -/
  | adsize (i : Instr)
  /-- `LOCK`: LOCK (R103). -/
  | lock (i : Instr)
  /-- `REPNE`: REPNE (R103). -/
  | repne (i : Instr)
  /-- `REP`: REP (R103). -/
  | rep (i : Instr)
  /-- `MOV_r_m8__r8`: MOV r/m8, r8 (R175). -/
  | movRm8R8 (rm : Rm8) (r : Reg8)
  /-- `MOV_r_m16_32__r16_32`: MOV r/m16/32, r16/32 (R175). -/
  | movRmvRv (rm : Rmv) (r : Gpr)
  /-- `MOV_r8__r_m8`: MOV r8, r/m8 (R176). -/
  | movR8Rm8 (r : Reg8) (rm : Rm8)
  /-- `MOV_r16_32__r_m16_32`: MOV r16/32, r/m16/32 (R176). -/
  | movRvRmv (r : Gpr) (rm : Rmv)
  /-- `MOV_r_m16__Sreg`: MOV r/m16, Sreg (R181). -/
  | movRm16Sreg (rm : Rmv) (sr : Sreg)
  /-- `MOV_Sreg__r_m16`: MOV Sreg, r/m16 (R152). -/
  | movSregRm16 (sr : Sreg) (rm : Rmv)
  /-- `MOV_AL__moffs8`: MOV AL, moffs8 (R177). -/
  | movAlMoffs (a : Moffs)
  /-- `MOV_eAX__moffs16_32`: MOV eAX, moffs16/32 (R177). -/
  | movEaxMoffs (a : Moffs)
  /-- `MOV_moffs8__AL`: MOV moffs8, AL (R178). -/
  | movMoffsAl (a : Moffs)
  /-- `MOV_moffs16_32__eAX`: MOV moffs16/32, eAX (R178). -/
  | movMoffsEax (a : Moffs)
  /-- `MOV_r8__imm8`: MOV r8, imm8 (R179). -/
  | movR8Imm8 (r : Reg8) (v : Byte)
  /-- `MOV_r16_32__imm16_32`: MOV r16/32, imm16/32 (R179). -/
  | movRvImm (r : Gpr) (v : Iz)
  /-- `MOV_r_m8__imm8`: MOV r/m8, imm8 (R180). -/
  | movRm8Imm8 (rm : Rm8) (v : Byte)
  /-- `MOV_r_m16_32__imm16_32`: MOV r/m16/32, imm16/32 (R180). -/
  | movRmvImm (rm : Rmv) (v : Iz)
  /-- `MOV_r32__CRn`: MOV r32, CRn (R169). -/
  | movR32Cr (x : BitVec 2) (r : Gpr) (c : Cr)
  /-- `MOV_CRn__r32`: MOV CRn, r32 (R170). -/
  | movCrR32 (x : BitVec 2) (c : Cr) (r : Gpr)
  /-- `MOV_r32__DRn`: MOV r32, DRn (R171). -/
  | movR32Dr (x : BitVec 2) (r : Gpr) (n : Fin 8)
  /-- `MOV_DRn__r32`: MOV DRn, r32 (R172). -/
  | movDrR32 (x : BitVec 2) (n : Fin 8) (r : Gpr)
  /-- `MOV_r32__TRn`: MOV r32, TRn (R173). -/
  | movR32Tr (x : BitVec 2) (r : Gpr) (n : Fin 8)
  /-- `MOV_TRn__r32`: MOV TRn, r32 (R174). -/
  | movTrR32 (x : BitVec 2) (n : Fin 8) (r : Gpr)
  /-- `ADD_r_m8__r8`: ADD r/m8, r8 (R192). -/
  | addRm8R8 (rm : Rm8) (r : Reg8)
  /-- `ADD_r_m16_32__r16_32`: ADD r/m16/32, r16/32 (R192). -/
  | addRmvRv (rm : Rmv) (r : Gpr)
  /-- `ADD_r8__r_m8`: ADD r8, r/m8 (R192). -/
  | addR8Rm8 (r : Reg8) (rm : Rm8)
  /-- `ADD_r16_32__r_m16_32`: ADD r16/32, r/m16/32 (R192). -/
  | addRvRmv (r : Gpr) (rm : Rmv)
  /-- `ADD_AL__imm8`: ADD AL, imm8 (R192). -/
  | addAlImm8 (v : Byte)
  /-- `ADD_eAX__imm16_32`: ADD eAX, imm16/32 (R192). -/
  | addEaxImm (v : Iz)
  /-- `ADD_r_m8__imm8`: ADD r/m8, imm8 (R192). -/
  | addRm8Imm8 (rm : Rm8) (v : Byte)
  /-- `ADD_r_m16_32__imm16_32`: ADD r/m16/32, imm16/32 (R192). -/
  | addRmvImm (rm : Rmv) (v : Iz)
  /-- `ADD_r_m8__imm8__alias_of_80`: ADD r/m8, imm8 (alias of 80) (R192). -/
  | addRm8Imm8Alias (rm : Rm8) (v : Byte)
  /-- `ADD_r_m16_32__imm8__sign-extended`: ADD r/m16/32, imm8 (sign-extended) (R192). -/
  | addRmvImm8 (rm : Rmv) (v : Byte)
  /-- `OR_r_m8__r8`: OR r/m8, r8 (R193). -/
  | orRm8R8 (rm : Rm8) (r : Reg8)
  /-- `OR_r_m16_32__r16_32`: OR r/m16/32, r16/32 (R193). -/
  | orRmvRv (rm : Rmv) (r : Gpr)
  /-- `OR_r8__r_m8`: OR r8, r/m8 (R193). -/
  | orR8Rm8 (r : Reg8) (rm : Rm8)
  /-- `OR_r16_32__r_m16_32`: OR r16/32, r/m16/32 (R193). -/
  | orRvRmv (r : Gpr) (rm : Rmv)
  /-- `OR_AL__imm8`: OR AL, imm8 (R193). -/
  | orAlImm8 (v : Byte)
  /-- `OR_eAX__imm16_32`: OR eAX, imm16/32 (R193). -/
  | orEaxImm (v : Iz)
  /-- `OR_r_m8__imm8`: OR r/m8, imm8 (R193). -/
  | orRm8Imm8 (rm : Rm8) (v : Byte)
  /-- `OR_r_m16_32__imm16_32`: OR r/m16/32, imm16/32 (R193). -/
  | orRmvImm (rm : Rmv) (v : Iz)
  /-- `OR_r_m8__imm8__alias_of_80`: OR r/m8, imm8 (alias of 80) (R193). -/
  | orRm8Imm8Alias (rm : Rm8) (v : Byte)
  /-- `OR_r_m16_32__imm8__sign-extended`: OR r/m16/32, imm8 (sign-extended) (R193). -/
  | orRmvImm8 (rm : Rmv) (v : Byte)
  /-- `ADC_r_m8__r8`: ADC r/m8, r8 (R194). -/
  | adcRm8R8 (rm : Rm8) (r : Reg8)
  /-- `ADC_r_m16_32__r16_32`: ADC r/m16/32, r16/32 (R194). -/
  | adcRmvRv (rm : Rmv) (r : Gpr)
  /-- `ADC_r8__r_m8`: ADC r8, r/m8 (R194). -/
  | adcR8Rm8 (r : Reg8) (rm : Rm8)
  /-- `ADC_r16_32__r_m16_32`: ADC r16/32, r/m16/32 (R194). -/
  | adcRvRmv (r : Gpr) (rm : Rmv)
  /-- `ADC_AL__imm8`: ADC AL, imm8 (R194). -/
  | adcAlImm8 (v : Byte)
  /-- `ADC_eAX__imm16_32`: ADC eAX, imm16/32 (R194). -/
  | adcEaxImm (v : Iz)
  /-- `ADC_r_m8__imm8`: ADC r/m8, imm8 (R194). -/
  | adcRm8Imm8 (rm : Rm8) (v : Byte)
  /-- `ADC_r_m16_32__imm16_32`: ADC r/m16/32, imm16/32 (R194). -/
  | adcRmvImm (rm : Rmv) (v : Iz)
  /-- `ADC_r_m8__imm8__alias_of_80`: ADC r/m8, imm8 (alias of 80) (R194). -/
  | adcRm8Imm8Alias (rm : Rm8) (v : Byte)
  /-- `ADC_r_m16_32__imm8__sign-extended`: ADC r/m16/32, imm8 (sign-extended) (R194). -/
  | adcRmvImm8 (rm : Rmv) (v : Byte)
  /-- `SBB_r_m8__r8`: SBB r/m8, r8 (R195). -/
  | sbbRm8R8 (rm : Rm8) (r : Reg8)
  /-- `SBB_r_m16_32__r16_32`: SBB r/m16/32, r16/32 (R195). -/
  | sbbRmvRv (rm : Rmv) (r : Gpr)
  /-- `SBB_r8__r_m8`: SBB r8, r/m8 (R195). -/
  | sbbR8Rm8 (r : Reg8) (rm : Rm8)
  /-- `SBB_r16_32__r_m16_32`: SBB r16/32, r/m16/32 (R195). -/
  | sbbRvRmv (r : Gpr) (rm : Rmv)
  /-- `SBB_AL__imm8`: SBB AL, imm8 (R195). -/
  | sbbAlImm8 (v : Byte)
  /-- `SBB_eAX__imm16_32`: SBB eAX, imm16/32 (R195). -/
  | sbbEaxImm (v : Iz)
  /-- `SBB_r_m8__imm8`: SBB r/m8, imm8 (R195). -/
  | sbbRm8Imm8 (rm : Rm8) (v : Byte)
  /-- `SBB_r_m16_32__imm16_32`: SBB r/m16/32, imm16/32 (R195). -/
  | sbbRmvImm (rm : Rmv) (v : Iz)
  /-- `SBB_r_m8__imm8__alias_of_80`: SBB r/m8, imm8 (alias of 80) (R195). -/
  | sbbRm8Imm8Alias (rm : Rm8) (v : Byte)
  /-- `SBB_r_m16_32__imm8__sign-extended`: SBB r/m16/32, imm8 (sign-extended) (R195). -/
  | sbbRmvImm8 (rm : Rmv) (v : Byte)
  /-- `AND_r_m8__r8`: AND r/m8, r8 (R196). -/
  | andRm8R8 (rm : Rm8) (r : Reg8)
  /-- `AND_r_m16_32__r16_32`: AND r/m16/32, r16/32 (R196). -/
  | andRmvRv (rm : Rmv) (r : Gpr)
  /-- `AND_r8__r_m8`: AND r8, r/m8 (R196). -/
  | andR8Rm8 (r : Reg8) (rm : Rm8)
  /-- `AND_r16_32__r_m16_32`: AND r16/32, r/m16/32 (R196). -/
  | andRvRmv (r : Gpr) (rm : Rmv)
  /-- `AND_AL__imm8`: AND AL, imm8 (R196). -/
  | andAlImm8 (v : Byte)
  /-- `AND_eAX__imm16_32`: AND eAX, imm16/32 (R196). -/
  | andEaxImm (v : Iz)
  /-- `AND_r_m8__imm8`: AND r/m8, imm8 (R196). -/
  | andRm8Imm8 (rm : Rm8) (v : Byte)
  /-- `AND_r_m16_32__imm16_32`: AND r/m16/32, imm16/32 (R196). -/
  | andRmvImm (rm : Rmv) (v : Iz)
  /-- `AND_r_m8__imm8__alias_of_80`: AND r/m8, imm8 (alias of 80) (R196). -/
  | andRm8Imm8Alias (rm : Rm8) (v : Byte)
  /-- `AND_r_m16_32__imm8__sign-extended`: AND r/m16/32, imm8 (sign-extended) (R196). -/
  | andRmvImm8 (rm : Rmv) (v : Byte)
  /-- `SUB_r_m8__r8`: SUB r/m8, r8 (R197). -/
  | subRm8R8 (rm : Rm8) (r : Reg8)
  /-- `SUB_r_m16_32__r16_32`: SUB r/m16/32, r16/32 (R197). -/
  | subRmvRv (rm : Rmv) (r : Gpr)
  /-- `SUB_r8__r_m8`: SUB r8, r/m8 (R197). -/
  | subR8Rm8 (r : Reg8) (rm : Rm8)
  /-- `SUB_r16_32__r_m16_32`: SUB r16/32, r/m16/32 (R197). -/
  | subRvRmv (r : Gpr) (rm : Rmv)
  /-- `SUB_AL__imm8`: SUB AL, imm8 (R197). -/
  | subAlImm8 (v : Byte)
  /-- `SUB_eAX__imm16_32`: SUB eAX, imm16/32 (R197). -/
  | subEaxImm (v : Iz)
  /-- `SUB_r_m8__imm8`: SUB r/m8, imm8 (R197). -/
  | subRm8Imm8 (rm : Rm8) (v : Byte)
  /-- `SUB_r_m16_32__imm16_32`: SUB r/m16/32, imm16/32 (R197). -/
  | subRmvImm (rm : Rmv) (v : Iz)
  /-- `SUB_r_m8__imm8__alias_of_80`: SUB r/m8, imm8 (alias of 80) (R197). -/
  | subRm8Imm8Alias (rm : Rm8) (v : Byte)
  /-- `SUB_r_m16_32__imm8__sign-extended`: SUB r/m16/32, imm8 (sign-extended) (R197). -/
  | subRmvImm8 (rm : Rmv) (v : Byte)
  /-- `XOR_r_m8__r8`: XOR r/m8, r8 (R198). -/
  | xorRm8R8 (rm : Rm8) (r : Reg8)
  /-- `XOR_r_m16_32__r16_32`: XOR r/m16/32, r16/32 (R198). -/
  | xorRmvRv (rm : Rmv) (r : Gpr)
  /-- `XOR_r8__r_m8`: XOR r8, r/m8 (R198). -/
  | xorR8Rm8 (r : Reg8) (rm : Rm8)
  /-- `XOR_r16_32__r_m16_32`: XOR r16/32, r/m16/32 (R198). -/
  | xorRvRmv (r : Gpr) (rm : Rmv)
  /-- `XOR_AL__imm8`: XOR AL, imm8 (R198). -/
  | xorAlImm8 (v : Byte)
  /-- `XOR_eAX__imm16_32`: XOR eAX, imm16/32 (R198). -/
  | xorEaxImm (v : Iz)
  /-- `XOR_r_m8__imm8`: XOR r/m8, imm8 (R198). -/
  | xorRm8Imm8 (rm : Rm8) (v : Byte)
  /-- `XOR_r_m16_32__imm16_32`: XOR r/m16/32, imm16/32 (R198). -/
  | xorRmvImm (rm : Rmv) (v : Iz)
  /-- `XOR_r_m8__imm8__alias_of_80`: XOR r/m8, imm8 (alias of 80) (R198). -/
  | xorRm8Imm8Alias (rm : Rm8) (v : Byte)
  /-- `XOR_r_m16_32__imm8__sign-extended`: XOR r/m16/32, imm8 (sign-extended) (R198). -/
  | xorRmvImm8 (rm : Rmv) (v : Byte)
  /-- `INC_r16_32`: INC r16/32 (R199). -/
  | incRv (r : Gpr)
  /-- `INC_r_m8`: INC r/m8 (R199). -/
  | incRm8 (rm : Rm8)
  /-- `INC_r_m16_32`: INC r/m16/32 (R199). -/
  | incRmv (rm : Rmv)
  /-- `DEC_r16_32`: DEC r16/32 (R200). -/
  | decRv (r : Gpr)
  /-- `DEC_r_m8`: DEC r/m8 (R200). -/
  | decRm8 (rm : Rm8)
  /-- `DEC_r_m16_32`: DEC r/m16/32 (R200). -/
  | decRmv (rm : Rmv)
  /-- `SHL_r_m8__imm8`: SHL r/m8, imm8 (R211). -/
  | shlRm8Imm8 (rm : Rm8) (v : Byte)
  /-- `SHL_r_m16_32__imm8`: SHL r/m16/32, imm8 (R211). -/
  | shlRmvImm8 (rm : Rmv) (v : Byte)
  /-- `SHL_r_m8__1`: SHL r/m8, 1 (R211). -/
  | shlRm8One (rm : Rm8)
  /-- `SHL_r_m16_32__1`: SHL r/m16/32, 1 (R211). -/
  | shlRmvOne (rm : Rmv)
  /-- `SHL_r_m8__CL`: SHL r/m8, CL (R211). -/
  | shlRm8Cl (rm : Rm8)
  /-- `SHL_r_m16_32__CL`: SHL r/m16/32, CL (R211). -/
  | shlRmvCl (rm : Rmv)
  /-- `SHR_r_m8__imm8`: SHR r/m8, imm8 (R212). -/
  | shrRm8Imm8 (rm : Rm8) (v : Byte)
  /-- `SHR_r_m16_32__imm8`: SHR r/m16/32, imm8 (R212). -/
  | shrRmvImm8 (rm : Rmv) (v : Byte)
  /-- `SHR_r_m8__1`: SHR r/m8, 1 (R212). -/
  | shrRm8One (rm : Rm8)
  /-- `SHR_r_m16_32__1`: SHR r/m16/32, 1 (R212). -/
  | shrRmvOne (rm : Rmv)
  /-- `SHR_r_m8__CL`: SHR r/m8, CL (R212). -/
  | shrRm8Cl (rm : Rm8)
  /-- `SHR_r_m16_32__CL`: SHR r/m16/32, CL (R212). -/
  | shrRmvCl (rm : Rmv)
  /-- `PUSH_r16_32`: PUSH r16/32 (R220). -/
  | pushRv (r : Gpr)
  /-- `PUSH_r_m16_32`: PUSH r/m16/32 (R221). -/
  | pushRmv (rm : Rmv)
  /-- `PUSH_imm16_32`: PUSH imm16/32 (R222). -/
  | pushImm (v : Iz)
  /-- `PUSH_imm8__sign-extended`: PUSH imm8 (sign-extended) (R222). -/
  | pushImm8 (v : Byte)
  /-- `PUSH_ES`: PUSH ES (R223). -/
  | pushEs
  /-- `PUSH_CS`: PUSH CS (R223). -/
  | pushCs
  /-- `PUSH_SS`: PUSH SS (R223). -/
  | pushSs
  /-- `PUSH_DS`: PUSH DS (R223). -/
  | pushDs
  /-- `PUSH_FS`: PUSH FS (R223). -/
  | pushFs
  /-- `PUSH_GS`: PUSH GS (R223). -/
  | pushGs
  /-- `POP_r16_32`: POP r16/32 (R224). -/
  | popRv (r : Gpr)
  /-- `POP_r_m16_32`: POP r/m16/32 (R226). -/
  | popRmv (rm : Rmv)
  /-- `POP_ES`: POP ES (R225). -/
  | popEs
  /-- `POP_SS`: POP SS (R225). -/
  | popSs
  /-- `POP_DS`: POP DS (R225). -/
  | popDs
  /-- `POP_FS`: POP FS (R225). -/
  | popFs
  /-- `POP_GS`: POP GS (R225). -/
  | popGs
  /-- `LGDT_m16_32`: LGDT m16&32 (R150). -/
  | lgdt (f : MemForm)
  /-- `LIDT_m16_32`: LIDT m16&32 (R151). -/
  | lidt (f : MemForm)
  deriving DecidableEq, Repr

/-- The opcode class of a record (R100). -/
inductive OpClass where
  | mov | add | or | adc | sbb | and | sub | xor | inc | dec | shl | shr | push | pop | lgdt | lidt
  deriving DecidableEq, Repr

/-- The two-operand ALU operations of the subset (R119). -/
inductive AluOp where
  | add | or | adc | sbb | and | sub | xor
  deriving DecidableEq, Repr

/-- The repeat prefix of a record (R100): none, REP (F3), REPNE (F2). -/
inductive Rep where
  | absent | rep | repne
  deriving DecidableEq, Repr

/-- An Operand (R101). Register ids are those of 10_state.md R25. -/
inductive Operand where
  | reg (id : Nat)
  /-- `Mem(base, index, scale, disp, asz)`: optional register ids, the displacement already sign-extended to 32 bits. -/
  | mem (base index : Option Nat) (scale : Nat) (disp : Word) (asz : Size)
  /-- `Imm(value, k)`: a k-byte number, in the low k bytes of `value`. -/
  | imm (value : Word) (k : Nat)
  /-- `Far(selector, offset, k)`: a k-byte offset. -/
  | far (selector : Half) (offset : Word) (k : Nat)
  /-- Any other kind: the "undefined operand kind" of R101 and 60_exceptions.md R239. -/
  | undefinedKind
  deriving DecidableEq, Repr

/-- The decoded Instruction record (R100). -/
structure Record where
  op : OpClass
  osz : Width
  asz : Size
  seg : Option Sreg
  rep : Rep
  lock : Bool
  opnd : List Operand
  len : Nat
  deriving DecidableEq, Repr

/-- The defaults an encoding is read under: CS.addressSize and CS.operandSize (R105, R106). -/
structure CodeMode where
  addressSize : Size
  operandSize : Size
  deriving DecidableEq, Repr

/-- What the prefix bytes seen so far say (R103, R104), and how many they are. -/
structure Prefixes where
  opsize : Bool := false
  adsize : Bool := false
  seg : Option Sreg := none
  rep : Rep := .absent
  lock : Bool := false
  count : Nat := 0
  deriving DecidableEq, Repr

/-- Why the decoder refuses a byte string, by name (R120, R121, S8 to S13). -/
inductive DecodeError where
  /-- The bytes end, or the 15-byte limit is reached, before the instruction does (R102, S12). -/
  | truncated
  /-- No row of the table has this opcode (R121). -/
  | notARow (opcode : Byte)
  /-- No row of the table has this second opcode byte after the escape 0F (R121). -/
  | notARow0F (opcode : Byte)
  /-- The ModRM `reg` extension of a group opcode is no row of the table (R119, R120, S10). -/
  | notInGroup (opcode : Byte) (digit : BitVec 3)
  /-- 8C with reg 6 or 7; 8E with reg 1 (CS), 6 or 7 (R120). -/
  | segmentField (opcode : Byte) (reg : BitVec 3)
  /-- 0F 20 or 0F 22 with CR1 or CR4 to CR7 (R120). -/
  | controlRegister (reg : BitVec 3)
  /-- 0F 21 or 0F 23 with DR4 or DR5 (R120, S8). -/
  | debugRegister (reg : BitVec 3)
  /-- 0F 24 or 0F 26 with TR0 to TR2 (R120, S9). -/
  | testRegister (reg : BitVec 3)
  /-- 0F 01 /2 or /3 with mod 11 (R120). -/
  | memoryOnly
  /-- LOCK before a form that does not allow it (R120, S13). -/
  | lockNotAllowed
  deriving DecidableEq, Repr

end Sys2Proof
end

