-- ==== Sys2Proof/Machine/Record.lean ====
section
/-! DEFINITION. From a row and its operands to the decoded Instruction record (30_encoding.md R100 to R117): prefix effects, sizes, operands, length. -/

namespace Sys2Proof

namespace Size

/-- The other of {16, 32} (R105, R106). -/
def flip : Size → Size
  | .s16 => .s32
  | .s32 => .s16

def bits : Size → Nat
  | .s16 => 16
  | .s32 => 32

def width : Size → Width
  | .s16 => .w16
  | .s32 => .w32

end Size

namespace Width

/-- `w` of R10. -/
def bits : Width → Nat
  | .w8 => 8
  | .w16 => 16
  | .w32 => 32

/-- `n = w / 8` of R10. -/
def bytes : Width → Nat
  | .w8 => 1
  | .w16 => 2
  | .w32 => 4

end Width

/-! Register fields (R108) and register ids (10_state.md R25). -/

def Gpr.bits : Gpr → BitVec 3
  | .eax => 0 | .ecx => 1 | .edx => 2 | .ebx => 3 | .esp => 4 | .ebp => 5 | .esi => 6 | .edi => 7

def Gpr.ofBits (n : BitVec 3) : Gpr :=
  match n.toNat with
  | 0 => .eax | 1 => .ecx | 2 => .edx | 3 => .ebx | 4 => .esp | 5 => .ebp | 6 => .esi | _ => .edi

def Reg8.bits : Reg8 → BitVec 3
  | .al => 0 | .cl => 1 | .dl => 2 | .bl => 3 | .ah => 4 | .ch => 5 | .dh => 6 | .bh => 7

def Reg8.ofBits (n : BitVec 3) : Reg8 :=
  match n.toNat with
  | 0 => .al | 1 => .cl | 2 => .dl | 3 => .bl | 4 => .ah | 5 => .ch | 6 => .dh | _ => .bh

def Sreg.bits : Sreg → BitVec 3
  | .es => 0 | .cs => 1 | .ss => 2 | .ds => 3 | .fs => 4 | .gs => 5

/-- Values 6 and 7 name no segment register. -/
def Sreg.ofBits? (n : BitVec 3) : Option Sreg :=
  match n.toNat with
  | 0 => some .es | 1 => some .cs | 2 => some .ss | 3 => some .ds | 4 => some .fs | 5 => some .gs | _ => none

def Cr.bits : Cr → BitVec 3
  | .cr0 => 0 | .cr1 => 1 | .cr2 => 2 | .cr3 => 3

/-- The number of a debug or test register as a register field. -/
def regBits (n : Fin 8) : BitVec 3 := BitVec.ofFin n

/-- The id of the 16-bit view (9 to 16) or of the whole cell (17 to 24). -/
def Gpr.id (r : Gpr) : Size → Nat
  | .s16 => 9 + r.bits.toNat
  | .s32 => 17 + r.bits.toNat

/-- The ids 1 to 8. -/
def Reg8.id (r : Reg8) : Nat := 1 + r.bits.toNat

/-- The ids 27 to 32. -/
def Sreg.id (r : Sreg) : Nat := 27 + r.bits.toNat

/-- The ids 44 to 47. -/
def Cr.id (r : Cr) : Nat := 44 + r.bits.toNat

/-- The cell an 8-bit view lies in (R23). -/
def Reg8.cell : Reg8 → Gpr
  | .al | .ah => .eax
  | .cl | .ch => .ecx
  | .dl | .dh => .edx
  | .bl | .bh => .ebx

/-- AH, CH, DH and BH are bits 15:8 of their cell, the others bits 7:0 (R23). -/
def Reg8.high : Reg8 → Bool
  | .al | .cl | .dl | .bl => false
  | .ah | .ch | .dh | .bh => true

/-- DR0 to DR3, DR6, DR7: what R118 admits. -/
def drAdmitted (n : Fin 8) : Bool := n != 4 && n != 5

/-- TR3 to TR7: what R118 admits. -/
def trAdmitted (n : Fin 8) : Bool := decide (3 ≤ n.val)

/-! Operands of a record (R101, R113, R117). -/

def Gpr.operand (r : Gpr) (z : Size) : Operand := .reg (r.id z)

def Reg8.operand (r : Reg8) : Operand := .reg r.id

def Sreg.operand (r : Sreg) : Operand := .reg r.id

def Cr.operand (r : Cr) : Operand := .reg r.id

/-- The ids 48 to 55. -/
def drOperand (n : Fin 8) : Operand := .reg (48 + n.val)

/-- The ids 35 to 42. -/
def trOperand (n : Fin 8) : Operand := .reg (35 + n.val)

/-- `Imm(ib, 1)`. -/
def imm8Operand (v : Byte) : Operand := .imm (v.setWidth 32) 1

def Iz.operand : Iz → Operand
  | .i16 v => .imm (v.setWidth 32) 2
  | .i32 v => .imm v 4

/-- Base and index ids of the 16-bit forms (R109): BX is 12, BP 14, SI 15, DI 16. -/
def Base16.regs : Base16 → Nat × Option Nat
  | .bxSi => (Gpr.id .ebx .s16, some (Gpr.id .esi .s16))
  | .bxDi => (Gpr.id .ebx .s16, some (Gpr.id .edi .s16))
  | .bpSi => (Gpr.id .ebp .s16, some (Gpr.id .esi .s16))
  | .bpDi => (Gpr.id .ebp .s16, some (Gpr.id .edi .s16))
  | .si => (Gpr.id .esi .s16, none)
  | .di => (Gpr.id .edi .s16, none)
  | .bp => (Gpr.id .ebp .s16, none)
  | .bx => (Gpr.id .ebx .s16, none)

/-- Sign-extended to 32 bits (R112). -/
def Disp16.value : Disp16 → Word
  | .d0 => 0
  | .d8 d => d.signExtend 32
  | .d16 d => d.signExtend 32

def Disp32.value : Disp32 → Word
  | .d0 => 0
  | .d8 d => d.signExtend 32
  | .d32 d => d

def Scale.factor : Scale → Nat
  | .x1 => 1 | .x2 => 2 | .x4 => 4 | .x8 => 8

/-- Index 100 means no index (R111). -/
def sibIndex (ix : Gpr) : Option Nat := if ix = .esp then none else some (ix.id .s32)

/-- The address size a form belongs to (R109, R110). -/
def MemForm.asz : MemForm → Size
  | .direct16 _ | .based16 _ _ => .s16
  | .direct32 _ | .based32 _ _ | .sib32 _ _ _ _ | .sibNoBase _ _ _ => .s32

def MemForm.operand : MemForm → Operand
  | .direct16 d => .mem none none 1 (d.signExtend 32) .s16
  | .based16 b d => .mem (some b.regs.1) b.regs.2 1 d.value .s16
  | .direct32 d => .mem none none 1 d .s32
  | .based32 b d => .mem (some (b.id .s32)) none 1 d.value .s32
  | .sib32 sc ix b d => .mem (some (b.id .s32)) (sibIndex ix) sc.factor d.value .s32
  | .sibNoBase sc ix d => .mem none (sibIndex ix) sc.factor d .s32

def Rm8.operand : Rm8 → Operand
  | .reg r => r.operand
  | .mem f => f.operand

def Rmv.operand (rm : Rmv) (z : Size) : Operand :=
  match rm with
  | .reg r => r.operand z
  | .mem f => f.operand

/-- `Mem(none, none, 1, offset, asz)` (R114). A 2-byte offset is
zero-extended to the record's 32-bit displacement, DESIGN CHOICE (log 24). -/
def Moffs.operand : Moffs → Operand
  | .o16 d => .mem none none 1 (d.setWidth 32) .s16
  | .o32 d => .mem none none 1 d .s32

/-! Byte counts (R116). -/

def Disp16.length : Disp16 → Nat
  | .d0 => 0 | .d8 _ => 1 | .d16 _ => 2

def Disp32.length : Disp32 → Nat
  | .d0 => 0 | .d8 _ => 1 | .d32 _ => 4

/-- ModRM, SIB and displacement. -/
def MemForm.length : MemForm → Nat
  | .direct16 _ => 3
  | .based16 _ d => 1 + d.length
  | .direct32 _ => 5
  | .based32 _ d => 1 + d.length
  | .sib32 _ _ _ d => 2 + d.length
  | .sibNoBase _ _ _ => 6

def Rm8.length : Rm8 → Nat
  | .reg _ => 1
  | .mem f => f.length

def Rmv.length : Rmv → Nat
  | .reg _ => 1
  | .mem f => f.length

def Moffs.length : Moffs → Nat
  | .o16 _ => 2 | .o32 _ => 4

def Iz.length : Iz → Nat
  | .i16 _ => 2 | .i32 _ => 4

/-- The byte length of an instruction, its prefixes included (R116). -/
def Instr.length : Instr → Nat
  | .segEs i => 1 + i.length
  | .segCs i => 1 + i.length
  | .segSs i => 1 + i.length
  | .segDs i => 1 + i.length
  | .segFs i => 1 + i.length
  | .segGs i => 1 + i.length
  | .opsize i => 1 + i.length
  | .adsize i => 1 + i.length
  | .lock i => 1 + i.length
  | .repne i => 1 + i.length
  | .rep i => 1 + i.length
  | .movRm8R8 rm _ => 1 + rm.length
  | .movRmvRv rm _ => 1 + rm.length
  | .movR8Rm8 _ rm => 1 + rm.length
  | .movRvRmv _ rm => 1 + rm.length
  | .movRm16Sreg rm _ => 1 + rm.length
  | .movSregRm16 _ rm => 1 + rm.length
  | .movAlMoffs a => 1 + a.length
  | .movEaxMoffs a => 1 + a.length
  | .movMoffsAl a => 1 + a.length
  | .movMoffsEax a => 1 + a.length
  | .movR8Imm8 _ _ => 2
  | .movRvImm _ v => 1 + v.length
  | .movRm8Imm8 rm _ => 2 + rm.length
  | .movRmvImm rm v => 1 + rm.length + v.length
  | .movR32Cr _ _ _ => 3
  | .movCrR32 _ _ _ => 3
  | .movR32Dr _ _ _ => 3
  | .movDrR32 _ _ _ => 3
  | .movR32Tr _ _ _ => 3
  | .movTrR32 _ _ _ => 3
  | .addRm8R8 rm _ => 1 + rm.length
  | .addRmvRv rm _ => 1 + rm.length
  | .addR8Rm8 _ rm => 1 + rm.length
  | .addRvRmv _ rm => 1 + rm.length
  | .addAlImm8 _ => 2
  | .addEaxImm v => 1 + v.length
  | .addRm8Imm8 rm _ => 2 + rm.length
  | .addRmvImm rm v => 1 + rm.length + v.length
  | .addRm8Imm8Alias rm _ => 2 + rm.length
  | .addRmvImm8 rm _ => 2 + rm.length
  | .orRm8R8 rm _ => 1 + rm.length
  | .orRmvRv rm _ => 1 + rm.length
  | .orR8Rm8 _ rm => 1 + rm.length
  | .orRvRmv _ rm => 1 + rm.length
  | .orAlImm8 _ => 2
  | .orEaxImm v => 1 + v.length
  | .orRm8Imm8 rm _ => 2 + rm.length
  | .orRmvImm rm v => 1 + rm.length + v.length
  | .orRm8Imm8Alias rm _ => 2 + rm.length
  | .orRmvImm8 rm _ => 2 + rm.length
  | .adcRm8R8 rm _ => 1 + rm.length
  | .adcRmvRv rm _ => 1 + rm.length
  | .adcR8Rm8 _ rm => 1 + rm.length
  | .adcRvRmv _ rm => 1 + rm.length
  | .adcAlImm8 _ => 2
  | .adcEaxImm v => 1 + v.length
  | .adcRm8Imm8 rm _ => 2 + rm.length
  | .adcRmvImm rm v => 1 + rm.length + v.length
  | .adcRm8Imm8Alias rm _ => 2 + rm.length
  | .adcRmvImm8 rm _ => 2 + rm.length
  | .sbbRm8R8 rm _ => 1 + rm.length
  | .sbbRmvRv rm _ => 1 + rm.length
  | .sbbR8Rm8 _ rm => 1 + rm.length
  | .sbbRvRmv _ rm => 1 + rm.length
  | .sbbAlImm8 _ => 2
  | .sbbEaxImm v => 1 + v.length
  | .sbbRm8Imm8 rm _ => 2 + rm.length
  | .sbbRmvImm rm v => 1 + rm.length + v.length
  | .sbbRm8Imm8Alias rm _ => 2 + rm.length
  | .sbbRmvImm8 rm _ => 2 + rm.length
  | .andRm8R8 rm _ => 1 + rm.length
  | .andRmvRv rm _ => 1 + rm.length
  | .andR8Rm8 _ rm => 1 + rm.length
  | .andRvRmv _ rm => 1 + rm.length
  | .andAlImm8 _ => 2
  | .andEaxImm v => 1 + v.length
  | .andRm8Imm8 rm _ => 2 + rm.length
  | .andRmvImm rm v => 1 + rm.length + v.length
  | .andRm8Imm8Alias rm _ => 2 + rm.length
  | .andRmvImm8 rm _ => 2 + rm.length
  | .subRm8R8 rm _ => 1 + rm.length
  | .subRmvRv rm _ => 1 + rm.length
  | .subR8Rm8 _ rm => 1 + rm.length
  | .subRvRmv _ rm => 1 + rm.length
  | .subAlImm8 _ => 2
  | .subEaxImm v => 1 + v.length
  | .subRm8Imm8 rm _ => 2 + rm.length
  | .subRmvImm rm v => 1 + rm.length + v.length
  | .subRm8Imm8Alias rm _ => 2 + rm.length
  | .subRmvImm8 rm _ => 2 + rm.length
  | .xorRm8R8 rm _ => 1 + rm.length
  | .xorRmvRv rm _ => 1 + rm.length
  | .xorR8Rm8 _ rm => 1 + rm.length
  | .xorRvRmv _ rm => 1 + rm.length
  | .xorAlImm8 _ => 2
  | .xorEaxImm v => 1 + v.length
  | .xorRm8Imm8 rm _ => 2 + rm.length
  | .xorRmvImm rm v => 1 + rm.length + v.length
  | .xorRm8Imm8Alias rm _ => 2 + rm.length
  | .xorRmvImm8 rm _ => 2 + rm.length
  | .incRv _ => 1
  | .incRm8 rm => 1 + rm.length
  | .incRmv rm => 1 + rm.length
  | .decRv _ => 1
  | .decRm8 rm => 1 + rm.length
  | .decRmv rm => 1 + rm.length
  | .shlRm8Imm8 rm _ => 2 + rm.length
  | .shlRmvImm8 rm _ => 2 + rm.length
  | .shlRm8One rm => 1 + rm.length
  | .shlRmvOne rm => 1 + rm.length
  | .shlRm8Cl rm => 1 + rm.length
  | .shlRmvCl rm => 1 + rm.length
  | .shrRm8Imm8 rm _ => 2 + rm.length
  | .shrRmvImm8 rm _ => 2 + rm.length
  | .shrRm8One rm => 1 + rm.length
  | .shrRmvOne rm => 1 + rm.length
  | .shrRm8Cl rm => 1 + rm.length
  | .shrRmvCl rm => 1 + rm.length
  | .pushRv _ => 1
  | .pushRmv rm => 1 + rm.length
  | .pushImm v => 1 + v.length
  | .pushImm8 _ => 2
  | .pushEs => 1
  | .pushCs => 1
  | .pushSs => 1
  | .pushDs => 1
  | .pushFs => 2
  | .pushGs => 2
  | .popRv _ => 1
  | .popRmv rm => 1 + rm.length
  | .popEs => 1
  | .popSs => 1
  | .popDs => 1
  | .popFs => 2
  | .popGs => 2
  | .lgdt f => 2 + f.length
  | .lidt f => 2 + f.length

/-! Prefixes (R103 to R106). -/

/-- The record effect of a prefix byte, seen after the prefixes `p` (R103): the last segment override and the last of F2
and F3 win, a repeated 66 or 67 counts once (R104). -/
def Pfx.apply (x : Pfx) (p : Prefixes) : Prefixes :=
  match x with
  | .es => { p with seg := some .es, count := p.count + 1 }
  | .cs => { p with seg := some .cs, count := p.count + 1 }
  | .ss => { p with seg := some .ss, count := p.count + 1 }
  | .ds => { p with seg := some .ds, count := p.count + 1 }
  | .fs => { p with seg := some .fs, count := p.count + 1 }
  | .gs => { p with seg := some .gs, count := p.count + 1 }
  | .opsize => { p with opsize := true, count := p.count + 1 }
  | .adsize => { p with adsize := true, count := p.count + 1 }
  | .lock => { p with lock := true, count := p.count + 1 }
  | .repne => { p with rep := .repne, count := p.count + 1 }
  | .rep => { p with rep := .rep, count := p.count + 1 }

/-- The effective operand size of a non-byte form (R105). -/
def Prefixes.osz (p : Prefixes) (m : CodeMode) : Size := if p.opsize then m.operandSize.flip else m.operandSize

/-- The effective address size (R106). -/
def Prefixes.asz (p : Prefixes) (m : CodeMode) : Size := if p.adsize then m.addressSize.flip else m.addressSize

/-- The record of an unprefixed part of `n` bytes after the prefixes `p`. -/
def Prefixes.record (p : Prefixes) (m : CodeMode) (osz : Width) (op : OpClass) (opnd : List Operand) (n : Nat) : Record :=
  { op, osz, asz := p.asz m, seg := p.seg, rep := p.rep, lock := p.lock, opnd, len := p.count + n }

/-- A byte form: size 8 whatever the prefixes (R105). -/
def Prefixes.rec8 (p : Prefixes) (m : CodeMode) (op : OpClass) (opnd : List Operand) (n : Nat) : Record :=
  p.record m .w8 op opnd n

/-- A form of the effective operand size. -/
def Prefixes.recV (p : Prefixes) (m : CodeMode) (op : OpClass) (opnd : List Operand) (n : Nat) : Record :=
  p.record m (p.osz m).width op opnd n

/-- MOV to and from control, debug and test registers: size 32 always (R105). -/
def Prefixes.rec32 (p : Prefixes) (m : CodeMode) (op : OpClass) (opnd : List Operand) (n : Nat) : Record :=
  p.record m .w32 op opnd n

/-- The decoded record of an instruction that stands after the prefixes `p` (R117: destination first). -/
def Instr.record (m : CodeMode) : Prefixes → Instr → Record
  | p, .segEs i => Instr.record m (Pfx.es.apply p) i
  | p, .segCs i => Instr.record m (Pfx.cs.apply p) i
  | p, .segSs i => Instr.record m (Pfx.ss.apply p) i
  | p, .segDs i => Instr.record m (Pfx.ds.apply p) i
  | p, .segFs i => Instr.record m (Pfx.fs.apply p) i
  | p, .segGs i => Instr.record m (Pfx.gs.apply p) i
  | p, .opsize i => Instr.record m (Pfx.opsize.apply p) i
  | p, .adsize i => Instr.record m (Pfx.adsize.apply p) i
  | p, .lock i => Instr.record m (Pfx.lock.apply p) i
  | p, .repne i => Instr.record m (Pfx.repne.apply p) i
  | p, .rep i => Instr.record m (Pfx.rep.apply p) i
  | p, .movRm8R8 rm r => p.rec8 m .mov [rm.operand, r.operand] (1 + rm.length)
  | p, .movRmvRv rm r => p.recV m .mov [rm.operand (p.osz m), r.operand (p.osz m)] (1 + rm.length)
  | p, .movR8Rm8 r rm => p.rec8 m .mov [r.operand, rm.operand] (1 + rm.length)
  | p, .movRvRmv r rm => p.recV m .mov [r.operand (p.osz m), rm.operand (p.osz m)] (1 + rm.length)
  | p, .movRm16Sreg rm sr => p.recV m .mov [rm.operand (p.osz m), sr.operand] (1 + rm.length)
  | p, .movSregRm16 sr rm => p.recV m .mov [sr.operand, rm.operand .s16] (1 + rm.length)
  | p, .movAlMoffs a => p.rec8 m .mov [Reg8.al.operand, a.operand] (1 + a.length)
  | p, .movEaxMoffs a => p.recV m .mov [Gpr.eax.operand (p.osz m), a.operand] (1 + a.length)
  | p, .movMoffsAl a => p.rec8 m .mov [a.operand, Reg8.al.operand] (1 + a.length)
  | p, .movMoffsEax a => p.recV m .mov [a.operand, Gpr.eax.operand (p.osz m)] (1 + a.length)
  | p, .movR8Imm8 r v => p.rec8 m .mov [r.operand, imm8Operand v] (2)
  | p, .movRvImm r v => p.recV m .mov [r.operand (p.osz m), v.operand] (1 + v.length)
  | p, .movRm8Imm8 rm v => p.rec8 m .mov [rm.operand, imm8Operand v] (2 + rm.length)
  | p, .movRmvImm rm v => p.recV m .mov [rm.operand (p.osz m), v.operand] (1 + rm.length + v.length)
  | p, .movR32Cr _ r c => p.rec32 m .mov [r.operand .s32, c.operand] (3)
  | p, .movCrR32 _ c r => p.rec32 m .mov [c.operand, r.operand .s32] (3)
  | p, .movR32Dr _ r n => p.rec32 m .mov [r.operand .s32, drOperand n] (3)
  | p, .movDrR32 _ n r => p.rec32 m .mov [drOperand n, r.operand .s32] (3)
  | p, .movR32Tr _ r n => p.rec32 m .mov [r.operand .s32, trOperand n] (3)
  | p, .movTrR32 _ n r => p.rec32 m .mov [trOperand n, r.operand .s32] (3)
  | p, .addRm8R8 rm r => p.rec8 m .add [rm.operand, r.operand] (1 + rm.length)
  | p, .addRmvRv rm r => p.recV m .add [rm.operand (p.osz m), r.operand (p.osz m)] (1 + rm.length)
  | p, .addR8Rm8 r rm => p.rec8 m .add [r.operand, rm.operand] (1 + rm.length)
  | p, .addRvRmv r rm => p.recV m .add [r.operand (p.osz m), rm.operand (p.osz m)] (1 + rm.length)
  | p, .addAlImm8 v => p.rec8 m .add [Reg8.al.operand, imm8Operand v] (2)
  | p, .addEaxImm v => p.recV m .add [Gpr.eax.operand (p.osz m), v.operand] (1 + v.length)
  | p, .addRm8Imm8 rm v => p.rec8 m .add [rm.operand, imm8Operand v] (2 + rm.length)
  | p, .addRmvImm rm v => p.recV m .add [rm.operand (p.osz m), v.operand] (1 + rm.length + v.length)
  | p, .addRm8Imm8Alias rm v => p.rec8 m .add [rm.operand, imm8Operand v] (2 + rm.length)
  | p, .addRmvImm8 rm v => p.recV m .add [rm.operand (p.osz m), imm8Operand v] (2 + rm.length)
  | p, .orRm8R8 rm r => p.rec8 m .or [rm.operand, r.operand] (1 + rm.length)
  | p, .orRmvRv rm r => p.recV m .or [rm.operand (p.osz m), r.operand (p.osz m)] (1 + rm.length)
  | p, .orR8Rm8 r rm => p.rec8 m .or [r.operand, rm.operand] (1 + rm.length)
  | p, .orRvRmv r rm => p.recV m .or [r.operand (p.osz m), rm.operand (p.osz m)] (1 + rm.length)
  | p, .orAlImm8 v => p.rec8 m .or [Reg8.al.operand, imm8Operand v] (2)
  | p, .orEaxImm v => p.recV m .or [Gpr.eax.operand (p.osz m), v.operand] (1 + v.length)
  | p, .orRm8Imm8 rm v => p.rec8 m .or [rm.operand, imm8Operand v] (2 + rm.length)
  | p, .orRmvImm rm v => p.recV m .or [rm.operand (p.osz m), v.operand] (1 + rm.length + v.length)
  | p, .orRm8Imm8Alias rm v => p.rec8 m .or [rm.operand, imm8Operand v] (2 + rm.length)
  | p, .orRmvImm8 rm v => p.recV m .or [rm.operand (p.osz m), imm8Operand v] (2 + rm.length)
  | p, .adcRm8R8 rm r => p.rec8 m .adc [rm.operand, r.operand] (1 + rm.length)
  | p, .adcRmvRv rm r => p.recV m .adc [rm.operand (p.osz m), r.operand (p.osz m)] (1 + rm.length)
  | p, .adcR8Rm8 r rm => p.rec8 m .adc [r.operand, rm.operand] (1 + rm.length)
  | p, .adcRvRmv r rm => p.recV m .adc [r.operand (p.osz m), rm.operand (p.osz m)] (1 + rm.length)
  | p, .adcAlImm8 v => p.rec8 m .adc [Reg8.al.operand, imm8Operand v] (2)
  | p, .adcEaxImm v => p.recV m .adc [Gpr.eax.operand (p.osz m), v.operand] (1 + v.length)
  | p, .adcRm8Imm8 rm v => p.rec8 m .adc [rm.operand, imm8Operand v] (2 + rm.length)
  | p, .adcRmvImm rm v => p.recV m .adc [rm.operand (p.osz m), v.operand] (1 + rm.length + v.length)
  | p, .adcRm8Imm8Alias rm v => p.rec8 m .adc [rm.operand, imm8Operand v] (2 + rm.length)
  | p, .adcRmvImm8 rm v => p.recV m .adc [rm.operand (p.osz m), imm8Operand v] (2 + rm.length)
  | p, .sbbRm8R8 rm r => p.rec8 m .sbb [rm.operand, r.operand] (1 + rm.length)
  | p, .sbbRmvRv rm r => p.recV m .sbb [rm.operand (p.osz m), r.operand (p.osz m)] (1 + rm.length)
  | p, .sbbR8Rm8 r rm => p.rec8 m .sbb [r.operand, rm.operand] (1 + rm.length)
  | p, .sbbRvRmv r rm => p.recV m .sbb [r.operand (p.osz m), rm.operand (p.osz m)] (1 + rm.length)
  | p, .sbbAlImm8 v => p.rec8 m .sbb [Reg8.al.operand, imm8Operand v] (2)
  | p, .sbbEaxImm v => p.recV m .sbb [Gpr.eax.operand (p.osz m), v.operand] (1 + v.length)
  | p, .sbbRm8Imm8 rm v => p.rec8 m .sbb [rm.operand, imm8Operand v] (2 + rm.length)
  | p, .sbbRmvImm rm v => p.recV m .sbb [rm.operand (p.osz m), v.operand] (1 + rm.length + v.length)
  | p, .sbbRm8Imm8Alias rm v => p.rec8 m .sbb [rm.operand, imm8Operand v] (2 + rm.length)
  | p, .sbbRmvImm8 rm v => p.recV m .sbb [rm.operand (p.osz m), imm8Operand v] (2 + rm.length)
  | p, .andRm8R8 rm r => p.rec8 m .and [rm.operand, r.operand] (1 + rm.length)
  | p, .andRmvRv rm r => p.recV m .and [rm.operand (p.osz m), r.operand (p.osz m)] (1 + rm.length)
  | p, .andR8Rm8 r rm => p.rec8 m .and [r.operand, rm.operand] (1 + rm.length)
  | p, .andRvRmv r rm => p.recV m .and [r.operand (p.osz m), rm.operand (p.osz m)] (1 + rm.length)
  | p, .andAlImm8 v => p.rec8 m .and [Reg8.al.operand, imm8Operand v] (2)
  | p, .andEaxImm v => p.recV m .and [Gpr.eax.operand (p.osz m), v.operand] (1 + v.length)
  | p, .andRm8Imm8 rm v => p.rec8 m .and [rm.operand, imm8Operand v] (2 + rm.length)
  | p, .andRmvImm rm v => p.recV m .and [rm.operand (p.osz m), v.operand] (1 + rm.length + v.length)
  | p, .andRm8Imm8Alias rm v => p.rec8 m .and [rm.operand, imm8Operand v] (2 + rm.length)
  | p, .andRmvImm8 rm v => p.recV m .and [rm.operand (p.osz m), imm8Operand v] (2 + rm.length)
  | p, .subRm8R8 rm r => p.rec8 m .sub [rm.operand, r.operand] (1 + rm.length)
  | p, .subRmvRv rm r => p.recV m .sub [rm.operand (p.osz m), r.operand (p.osz m)] (1 + rm.length)
  | p, .subR8Rm8 r rm => p.rec8 m .sub [r.operand, rm.operand] (1 + rm.length)
  | p, .subRvRmv r rm => p.recV m .sub [r.operand (p.osz m), rm.operand (p.osz m)] (1 + rm.length)
  | p, .subAlImm8 v => p.rec8 m .sub [Reg8.al.operand, imm8Operand v] (2)
  | p, .subEaxImm v => p.recV m .sub [Gpr.eax.operand (p.osz m), v.operand] (1 + v.length)
  | p, .subRm8Imm8 rm v => p.rec8 m .sub [rm.operand, imm8Operand v] (2 + rm.length)
  | p, .subRmvImm rm v => p.recV m .sub [rm.operand (p.osz m), v.operand] (1 + rm.length + v.length)
  | p, .subRm8Imm8Alias rm v => p.rec8 m .sub [rm.operand, imm8Operand v] (2 + rm.length)
  | p, .subRmvImm8 rm v => p.recV m .sub [rm.operand (p.osz m), imm8Operand v] (2 + rm.length)
  | p, .xorRm8R8 rm r => p.rec8 m .xor [rm.operand, r.operand] (1 + rm.length)
  | p, .xorRmvRv rm r => p.recV m .xor [rm.operand (p.osz m), r.operand (p.osz m)] (1 + rm.length)
  | p, .xorR8Rm8 r rm => p.rec8 m .xor [r.operand, rm.operand] (1 + rm.length)
  | p, .xorRvRmv r rm => p.recV m .xor [r.operand (p.osz m), rm.operand (p.osz m)] (1 + rm.length)
  | p, .xorAlImm8 v => p.rec8 m .xor [Reg8.al.operand, imm8Operand v] (2)
  | p, .xorEaxImm v => p.recV m .xor [Gpr.eax.operand (p.osz m), v.operand] (1 + v.length)
  | p, .xorRm8Imm8 rm v => p.rec8 m .xor [rm.operand, imm8Operand v] (2 + rm.length)
  | p, .xorRmvImm rm v => p.recV m .xor [rm.operand (p.osz m), v.operand] (1 + rm.length + v.length)
  | p, .xorRm8Imm8Alias rm v => p.rec8 m .xor [rm.operand, imm8Operand v] (2 + rm.length)
  | p, .xorRmvImm8 rm v => p.recV m .xor [rm.operand (p.osz m), imm8Operand v] (2 + rm.length)
  | p, .incRv r => p.recV m .inc [r.operand (p.osz m)] (1)
  | p, .incRm8 rm => p.rec8 m .inc [rm.operand] (1 + rm.length)
  | p, .incRmv rm => p.recV m .inc [rm.operand (p.osz m)] (1 + rm.length)
  | p, .decRv r => p.recV m .dec [r.operand (p.osz m)] (1)
  | p, .decRm8 rm => p.rec8 m .dec [rm.operand] (1 + rm.length)
  | p, .decRmv rm => p.recV m .dec [rm.operand (p.osz m)] (1 + rm.length)
  | p, .shlRm8Imm8 rm v => p.rec8 m .shl [rm.operand, imm8Operand v] (2 + rm.length)
  | p, .shlRmvImm8 rm v => p.recV m .shl [rm.operand (p.osz m), imm8Operand v] (2 + rm.length)
  | p, .shlRm8One rm => p.rec8 m .shl [rm.operand, imm8Operand 1#8] (1 + rm.length)
  | p, .shlRmvOne rm => p.recV m .shl [rm.operand (p.osz m), imm8Operand 1#8] (1 + rm.length)
  | p, .shlRm8Cl rm => p.rec8 m .shl [rm.operand, Reg8.cl.operand] (1 + rm.length)
  | p, .shlRmvCl rm => p.recV m .shl [rm.operand (p.osz m), Reg8.cl.operand] (1 + rm.length)
  | p, .shrRm8Imm8 rm v => p.rec8 m .shr [rm.operand, imm8Operand v] (2 + rm.length)
  | p, .shrRmvImm8 rm v => p.recV m .shr [rm.operand (p.osz m), imm8Operand v] (2 + rm.length)
  | p, .shrRm8One rm => p.rec8 m .shr [rm.operand, imm8Operand 1#8] (1 + rm.length)
  | p, .shrRmvOne rm => p.recV m .shr [rm.operand (p.osz m), imm8Operand 1#8] (1 + rm.length)
  | p, .shrRm8Cl rm => p.rec8 m .shr [rm.operand, Reg8.cl.operand] (1 + rm.length)
  | p, .shrRmvCl rm => p.recV m .shr [rm.operand (p.osz m), Reg8.cl.operand] (1 + rm.length)
  | p, .pushRv r => p.recV m .push [r.operand (p.osz m)] (1)
  | p, .pushRmv rm => p.recV m .push [rm.operand (p.osz m)] (1 + rm.length)
  | p, .pushImm v => p.recV m .push [v.operand] (1 + v.length)
  | p, .pushImm8 v => p.recV m .push [imm8Operand v] (2)
  | p, .pushEs => p.recV m .push [Sreg.es.operand] (1)
  | p, .pushCs => p.recV m .push [Sreg.cs.operand] (1)
  | p, .pushSs => p.recV m .push [Sreg.ss.operand] (1)
  | p, .pushDs => p.recV m .push [Sreg.ds.operand] (1)
  | p, .pushFs => p.recV m .push [Sreg.fs.operand] (2)
  | p, .pushGs => p.recV m .push [Sreg.gs.operand] (2)
  | p, .popRv r => p.recV m .pop [r.operand (p.osz m)] (1)
  | p, .popRmv rm => p.recV m .pop [rm.operand (p.osz m)] (1 + rm.length)
  | p, .popEs => p.recV m .pop [Sreg.es.operand] (1)
  | p, .popSs => p.recV m .pop [Sreg.ss.operand] (1)
  | p, .popDs => p.recV m .pop [Sreg.ds.operand] (1)
  | p, .popFs => p.recV m .pop [Sreg.fs.operand] (2)
  | p, .popGs => p.recV m .pop [Sreg.gs.operand] (2)
  | p, .lgdt f => p.recV m .lgdt [f.operand] (2 + f.length)
  | p, .lidt f => p.recV m .lidt [f.operand] (2 + f.length)

/-- LOCK is allowed before ADD, OR, ADC, SBB, AND, SUB, XOR, INC and DEC with a memory destination (R120). -/
def Record.lockable (r : Record) : Bool :=
  match r.op, r.opnd with
  | .add, .mem .. :: _ | .or, .mem .. :: _ | .adc, .mem .. :: _ | .sbb, .mem .. :: _ | .and, .mem .. :: _
  | .sub, .mem .. :: _ | .xor, .mem .. :: _ | .inc, .mem .. :: _ | .dec, .mem .. :: _ => true
  | _, _ => false

/-- The LOCK rule of R120 holds of a record. -/
def Record.lockOk (r : Record) : Bool := !r.lock || r.lockable

end Sys2Proof
end

