-- ==== Sys2Proof/WellFormed.lean ====
section
/-! DEFINITION. Which instructions an encoding can express: what encode is for and what the decoder yields (30_encoding.md R102 to R120). -/

namespace Sys2Proof

/-- The form has an encoding under the address size `z`: it belongs to that size; BP and EBP as a base need a
displacement (their mod-00 codes mean a bare displacement); ESP as a base needs a SIB (R109 to R111). -/
def MemForm.ok (f : MemForm) (z : Size) : Bool :=
  f.asz == z &&
  match f with
  | .direct16 _ => true
  | .based16 b d => !(b == .bp && d == .d0)
  | .direct32 _ => true
  | .based32 b d => b != .esp && !(b == .ebp && d == .d0)
  | .sib32 _ _ b d => !(b == .ebp && d == .d0)
  | .sibNoBase _ _ _ => true

def Rm8.ok (rm : Rm8) (z : Size) : Bool :=
  match rm with
  | .reg _ => true
  | .mem f => f.ok z

def Rmv.ok (rm : Rmv) (z : Size) : Bool :=
  match rm with
  | .reg _ => true
  | .mem f => f.ok z

/-- The offset has the width of the address size (R114). -/
def Moffs.ok (a : Moffs) (z : Size) : Bool :=
  match a, z with
  | .o16 _, .s16 | .o32 _, .s32 => true
  | .o16 _, .s32 | .o32 _, .s16 => false

/-- The immediate has the width of the operand size (R113). -/
def Iz.ok (v : Iz) (z : Size) : Bool :=
  match v, z with
  | .i16 _, .s16 | .i32 _, .s32 => true
  | .i16 _, .s32 | .i32 _, .s16 => false

/-- Every operand form of the instruction can be encoded after the prefixes `p`: memory forms and immediates of the
effective sizes, no MOV to CS, no CR1, no DR4 or DR5, no TR0 to TR2 (R120). -/
def Instr.formsOk (m : CodeMode) : Prefixes → Instr → Bool
  | p, .segEs i => Instr.formsOk m (Pfx.es.apply p) i
  | p, .segCs i => Instr.formsOk m (Pfx.cs.apply p) i
  | p, .segSs i => Instr.formsOk m (Pfx.ss.apply p) i
  | p, .segDs i => Instr.formsOk m (Pfx.ds.apply p) i
  | p, .segFs i => Instr.formsOk m (Pfx.fs.apply p) i
  | p, .segGs i => Instr.formsOk m (Pfx.gs.apply p) i
  | p, .opsize i => Instr.formsOk m (Pfx.opsize.apply p) i
  | p, .adsize i => Instr.formsOk m (Pfx.adsize.apply p) i
  | p, .lock i => Instr.formsOk m (Pfx.lock.apply p) i
  | p, .repne i => Instr.formsOk m (Pfx.repne.apply p) i
  | p, .rep i => Instr.formsOk m (Pfx.rep.apply p) i
  | p, .movRm8R8 rm _ => rm.ok (p.asz m)
  | p, .movRmvRv rm _ => rm.ok (p.asz m)
  | p, .movR8Rm8 _ rm => rm.ok (p.asz m)
  | p, .movRvRmv _ rm => rm.ok (p.asz m)
  | p, .movRm16Sreg rm _ => rm.ok (p.asz m)
  | p, .movSregRm16 sr rm => rm.ok (p.asz m) && sr != .cs
  | p, .movAlMoffs a => a.ok (p.asz m)
  | p, .movEaxMoffs a => a.ok (p.asz m)
  | p, .movMoffsAl a => a.ok (p.asz m)
  | p, .movMoffsEax a => a.ok (p.asz m)
  | _, .movR8Imm8 _ _ => true
  | p, .movRvImm _ v => v.ok (p.osz m)
  | p, .movRm8Imm8 rm _ => rm.ok (p.asz m)
  | p, .movRmvImm rm v => rm.ok (p.asz m) && v.ok (p.osz m)
  | _, .movR32Cr _ _ c => c != .cr1
  | _, .movCrR32 _ c _ => c != .cr1
  | _, .movR32Dr _ _ n => drAdmitted n
  | _, .movDrR32 _ n _ => drAdmitted n
  | _, .movR32Tr _ _ n => trAdmitted n
  | _, .movTrR32 _ n _ => trAdmitted n
  | p, .addRm8R8 rm _ => rm.ok (p.asz m)
  | p, .addRmvRv rm _ => rm.ok (p.asz m)
  | p, .addR8Rm8 _ rm => rm.ok (p.asz m)
  | p, .addRvRmv _ rm => rm.ok (p.asz m)
  | _, .addAlImm8 _ => true
  | p, .addEaxImm v => v.ok (p.osz m)
  | p, .addRm8Imm8 rm _ => rm.ok (p.asz m)
  | p, .addRmvImm rm v => rm.ok (p.asz m) && v.ok (p.osz m)
  | p, .addRm8Imm8Alias rm _ => rm.ok (p.asz m)
  | p, .addRmvImm8 rm _ => rm.ok (p.asz m)
  | p, .orRm8R8 rm _ => rm.ok (p.asz m)
  | p, .orRmvRv rm _ => rm.ok (p.asz m)
  | p, .orR8Rm8 _ rm => rm.ok (p.asz m)
  | p, .orRvRmv _ rm => rm.ok (p.asz m)
  | _, .orAlImm8 _ => true
  | p, .orEaxImm v => v.ok (p.osz m)
  | p, .orRm8Imm8 rm _ => rm.ok (p.asz m)
  | p, .orRmvImm rm v => rm.ok (p.asz m) && v.ok (p.osz m)
  | p, .orRm8Imm8Alias rm _ => rm.ok (p.asz m)
  | p, .orRmvImm8 rm _ => rm.ok (p.asz m)
  | p, .adcRm8R8 rm _ => rm.ok (p.asz m)
  | p, .adcRmvRv rm _ => rm.ok (p.asz m)
  | p, .adcR8Rm8 _ rm => rm.ok (p.asz m)
  | p, .adcRvRmv _ rm => rm.ok (p.asz m)
  | _, .adcAlImm8 _ => true
  | p, .adcEaxImm v => v.ok (p.osz m)
  | p, .adcRm8Imm8 rm _ => rm.ok (p.asz m)
  | p, .adcRmvImm rm v => rm.ok (p.asz m) && v.ok (p.osz m)
  | p, .adcRm8Imm8Alias rm _ => rm.ok (p.asz m)
  | p, .adcRmvImm8 rm _ => rm.ok (p.asz m)
  | p, .sbbRm8R8 rm _ => rm.ok (p.asz m)
  | p, .sbbRmvRv rm _ => rm.ok (p.asz m)
  | p, .sbbR8Rm8 _ rm => rm.ok (p.asz m)
  | p, .sbbRvRmv _ rm => rm.ok (p.asz m)
  | _, .sbbAlImm8 _ => true
  | p, .sbbEaxImm v => v.ok (p.osz m)
  | p, .sbbRm8Imm8 rm _ => rm.ok (p.asz m)
  | p, .sbbRmvImm rm v => rm.ok (p.asz m) && v.ok (p.osz m)
  | p, .sbbRm8Imm8Alias rm _ => rm.ok (p.asz m)
  | p, .sbbRmvImm8 rm _ => rm.ok (p.asz m)
  | p, .andRm8R8 rm _ => rm.ok (p.asz m)
  | p, .andRmvRv rm _ => rm.ok (p.asz m)
  | p, .andR8Rm8 _ rm => rm.ok (p.asz m)
  | p, .andRvRmv _ rm => rm.ok (p.asz m)
  | _, .andAlImm8 _ => true
  | p, .andEaxImm v => v.ok (p.osz m)
  | p, .andRm8Imm8 rm _ => rm.ok (p.asz m)
  | p, .andRmvImm rm v => rm.ok (p.asz m) && v.ok (p.osz m)
  | p, .andRm8Imm8Alias rm _ => rm.ok (p.asz m)
  | p, .andRmvImm8 rm _ => rm.ok (p.asz m)
  | p, .subRm8R8 rm _ => rm.ok (p.asz m)
  | p, .subRmvRv rm _ => rm.ok (p.asz m)
  | p, .subR8Rm8 _ rm => rm.ok (p.asz m)
  | p, .subRvRmv _ rm => rm.ok (p.asz m)
  | _, .subAlImm8 _ => true
  | p, .subEaxImm v => v.ok (p.osz m)
  | p, .subRm8Imm8 rm _ => rm.ok (p.asz m)
  | p, .subRmvImm rm v => rm.ok (p.asz m) && v.ok (p.osz m)
  | p, .subRm8Imm8Alias rm _ => rm.ok (p.asz m)
  | p, .subRmvImm8 rm _ => rm.ok (p.asz m)
  | p, .xorRm8R8 rm _ => rm.ok (p.asz m)
  | p, .xorRmvRv rm _ => rm.ok (p.asz m)
  | p, .xorR8Rm8 _ rm => rm.ok (p.asz m)
  | p, .xorRvRmv _ rm => rm.ok (p.asz m)
  | _, .xorAlImm8 _ => true
  | p, .xorEaxImm v => v.ok (p.osz m)
  | p, .xorRm8Imm8 rm _ => rm.ok (p.asz m)
  | p, .xorRmvImm rm v => rm.ok (p.asz m) && v.ok (p.osz m)
  | p, .xorRm8Imm8Alias rm _ => rm.ok (p.asz m)
  | p, .xorRmvImm8 rm _ => rm.ok (p.asz m)
  | _, .incRv _ => true
  | p, .incRm8 rm => rm.ok (p.asz m)
  | p, .incRmv rm => rm.ok (p.asz m)
  | _, .decRv _ => true
  | p, .decRm8 rm => rm.ok (p.asz m)
  | p, .decRmv rm => rm.ok (p.asz m)
  | p, .shlRm8Imm8 rm _ => rm.ok (p.asz m)
  | p, .shlRmvImm8 rm _ => rm.ok (p.asz m)
  | p, .shlRm8One rm => rm.ok (p.asz m)
  | p, .shlRmvOne rm => rm.ok (p.asz m)
  | p, .shlRm8Cl rm => rm.ok (p.asz m)
  | p, .shlRmvCl rm => rm.ok (p.asz m)
  | p, .shrRm8Imm8 rm _ => rm.ok (p.asz m)
  | p, .shrRmvImm8 rm _ => rm.ok (p.asz m)
  | p, .shrRm8One rm => rm.ok (p.asz m)
  | p, .shrRmvOne rm => rm.ok (p.asz m)
  | p, .shrRm8Cl rm => rm.ok (p.asz m)
  | p, .shrRmvCl rm => rm.ok (p.asz m)
  | _, .pushRv _ => true
  | p, .pushRmv rm => rm.ok (p.asz m)
  | p, .pushImm v => v.ok (p.osz m)
  | _, .pushImm8 _ => true
  | _, .pushEs => true
  | _, .pushCs => true
  | _, .pushSs => true
  | _, .pushDs => true
  | _, .pushFs => true
  | _, .pushGs => true
  | _, .popRv _ => true
  | p, .popRmv rm => rm.ok (p.asz m)
  | _, .popEs => true
  | _, .popSs => true
  | _, .popDs => true
  | _, .popFs => true
  | _, .popGs => true
  | p, .lgdt f => f.ok (p.asz m)
  | p, .lidt f => f.ok (p.asz m)

/-- Well-formed under the code segment's sizes: every form encodable, LOCK only where it is allowed (R120), at most 15
bytes (R102). -/
def Instr.wf (m : CodeMode) (i : Instr) : Bool :=
  Instr.formsOk m {} i && (Instr.record m {} i).lockOk && decide (i.length ≤ Config.maxLength)

end Sys2Proof
end

