-- ==== Sys2Proof/Decode.lean ====
section
/-! DEFINITION. The decoder, total on any bytes and refusing by name, and after it the encoder (30_encoding.md R102 to R121). -/

namespace Sys2Proof

/-! Row families of the two-operand ALU block, by operation (R118, R119). -/

/-- The operation a ModRM `reg` digit or the opcode bits 5:3 select; 7 is CMP, which is no row (R119). -/
def AluOp.ofDigit (d : BitVec 3) : Option AluOp :=
  match d.toNat with
  | 0 => some .add | 1 => some .or | 2 => some .adc | 3 => some .sbb | 4 => some .and | 5 => some .sub | 6 => some .xor
  | _ => none

def AluOp.digit : AluOp → BitVec 3
  | .add => 0 | .or => 1 | .adc => 2 | .sbb => 3 | .and => 4 | .sub => 5 | .xor => 6

def AluOp.rm8R8 : AluOp → Rm8 → Reg8 → Instr
  | .add => .addRm8R8 | .or => .orRm8R8 | .adc => .adcRm8R8 | .sbb => .sbbRm8R8 | .and => .andRm8R8 | .sub => .subRm8R8 | .xor => .xorRm8R8

def AluOp.rmvRv : AluOp → Rmv → Gpr → Instr
  | .add => .addRmvRv | .or => .orRmvRv | .adc => .adcRmvRv | .sbb => .sbbRmvRv | .and => .andRmvRv | .sub => .subRmvRv | .xor => .xorRmvRv

def AluOp.r8Rm8 : AluOp → Reg8 → Rm8 → Instr
  | .add => .addR8Rm8 | .or => .orR8Rm8 | .adc => .adcR8Rm8 | .sbb => .sbbR8Rm8 | .and => .andR8Rm8 | .sub => .subR8Rm8 | .xor => .xorR8Rm8

def AluOp.rvRmv : AluOp → Gpr → Rmv → Instr
  | .add => .addRvRmv | .or => .orRvRmv | .adc => .adcRvRmv | .sbb => .sbbRvRmv | .and => .andRvRmv | .sub => .subRvRmv | .xor => .xorRvRmv

def AluOp.alImm8 : AluOp → Byte → Instr
  | .add => .addAlImm8 | .or => .orAlImm8 | .adc => .adcAlImm8 | .sbb => .sbbAlImm8 | .and => .andAlImm8 | .sub => .subAlImm8 | .xor => .xorAlImm8

def AluOp.eaxImm : AluOp → Iz → Instr
  | .add => .addEaxImm | .or => .orEaxImm | .adc => .adcEaxImm | .sbb => .sbbEaxImm | .and => .andEaxImm | .sub => .subEaxImm | .xor => .xorEaxImm

def AluOp.rm8Imm8 : AluOp → Rm8 → Byte → Instr
  | .add => .addRm8Imm8 | .or => .orRm8Imm8 | .adc => .adcRm8Imm8 | .sbb => .sbbRm8Imm8 | .and => .andRm8Imm8 | .sub => .subRm8Imm8 | .xor => .xorRm8Imm8

def AluOp.rmvImm : AluOp → Rmv → Iz → Instr
  | .add => .addRmvImm | .or => .orRmvImm | .adc => .adcRmvImm | .sbb => .sbbRmvImm | .and => .andRmvImm | .sub => .subRmvImm | .xor => .xorRmvImm

def AluOp.rm8Imm8Alias : AluOp → Rm8 → Byte → Instr
  | .add => .addRm8Imm8Alias | .or => .orRm8Imm8Alias | .adc => .adcRm8Imm8Alias | .sbb => .sbbRm8Imm8Alias | .and => .andRm8Imm8Alias | .sub => .subRm8Imm8Alias | .xor => .xorRm8Imm8Alias

def AluOp.rmvImm8 : AluOp → Rmv → Byte → Instr
  | .add => .addRmvImm8 | .or => .orRmvImm8 | .adc => .adcRmvImm8 | .sbb => .sbbRmvImm8 | .and => .andRmvImm8 | .sub => .subRmvImm8 | .xor => .xorRmvImm8

/-! Reading pieces of an encoding. -/

/-- The result of reading a piece: what was read and the bytes after it. -/
abbrev Read (α : Type) := Except DecodeError (α × List Byte)

/-- Read a piece, then go on with it and the bytes after it. -/
def Read.andThen {α β : Type} (r : Read α) (f : α → List Byte → Read β) : Read β :=
  match r with
  | .ok (x, bs) => f x bs
  | .error e => .error e

def readByte : List Byte → Read Byte
  | b :: bs => .ok (b, bs)
  | [] => .error .truncated

def readHalf : List Byte → Read Half
  | b0 :: b1 :: bs => .ok (le16 b0 b1, bs)
  | _ => .error .truncated

def readWord : List Byte → Read Word
  | b0 :: b1 :: b2 :: b3 :: bs => .ok (le32 b0 b1 b2 b3, bs)
  | _ => .error .truncated

/-- The fields of a ModRM byte (R107). -/
structure ModRM where
  md : BitVec 2
  reg : BitVec 3
  rm : BitVec 3
  deriving DecidableEq, Repr

def readModRM : List Byte → Read ModRM
  | b :: bs => .ok (⟨b.extractLsb' 6 2, b.extractLsb' 3 3, b.extractLsb' 0 3⟩, bs)
  | [] => .error .truncated

def Base16.ofBits (n : BitVec 3) : Base16 :=
  match n.toNat with
  | 0 => .bxSi | 1 => .bxDi | 2 => .bpSi | 3 => .bpDi | 4 => .si | 5 => .di | 6 => .bp | _ => .bx

def Base16.bits : Base16 → BitVec 3
  | .bxSi => 0 | .bxDi => 1 | .bpSi => 2 | .bpDi => 3 | .si => 4 | .di => 5 | .bp => 6 | .bx => 7

def Scale.ofBits (n : BitVec 2) : Scale :=
  match n.toNat with
  | 0 => .x1 | 1 => .x2 | 2 => .x4 | _ => .x8

def Scale.bits : Scale → BitVec 2
  | .x1 => 0 | .x2 => 1 | .x4 => 2 | .x8 => 3

/-- The displacement a 16-bit form's `mod` announces (R109). -/
def readDisp16 (md : BitVec 2) (bs : List Byte) : Read Disp16 :=
  match md.toNat with
  | 0 => .ok (.d0, bs)
  | 1 =>
    Read.andThen (readByte bs) fun d bs =>
    .ok (.d8 d, bs)
  | _ =>
    Read.andThen (readHalf bs) fun d bs =>
    .ok (.d16 d, bs)

/-- The displacement a 32-bit form's `mod` announces (R110). -/
def readDisp32 (md : BitVec 2) (bs : List Byte) : Read Disp32 :=
  match md.toNat with
  | 0 => .ok (.d0, bs)
  | 1 =>
    Read.andThen (readByte bs) fun d bs =>
    .ok (.d8 d, bs)
  | _ =>
    Read.andThen (readWord bs) fun d bs =>
    .ok (.d32 d, bs)

/-- A 16-bit memory form after its ModRM byte (R109). -/
def readMem16 (md : BitVec 2) (rm : BitVec 3) (bs : List Byte) : Read MemForm :=
  if md = 0 ∧ rm = 6 then
    Read.andThen (readHalf bs) fun d bs =>
    .ok (.direct16 d, bs)
  else
    Read.andThen (readDisp16 md bs) fun d bs =>
    .ok (.based16 (Base16.ofBits rm) d, bs)

/-- A form with SIB, after its ModRM byte (R111). -/
def readSib (md : BitVec 2) (bs : List Byte) : Read MemForm :=
  Read.andThen (readByte bs) fun b bs =>
  let sc := Scale.ofBits (b.extractLsb' 6 2)
  let ix := Gpr.ofBits (b.extractLsb' 3 3)
  let base : BitVec 3 := b.extractLsb' 0 3
  if md = 0 ∧ base = 5 then
    Read.andThen (readWord bs) fun d bs =>
    .ok (.sibNoBase sc ix d, bs)
  else
    Read.andThen (readDisp32 md bs) fun d bs =>
    .ok (.sib32 sc ix (Gpr.ofBits base) d, bs)

/-- A 32-bit memory form after its ModRM byte (R110). -/
def readMem32 (md : BitVec 2) (rm : BitVec 3) (bs : List Byte) : Read MemForm :=
  if rm = 4 then readSib md bs
  else if md = 0 ∧ rm = 5 then
    Read.andThen (readWord bs) fun d bs =>
    .ok (.direct32 d, bs)
  else
    Read.andThen (readDisp32 md bs) fun d bs =>
    .ok (.based32 (Gpr.ofBits rm) d, bs)

def readMem (z : Size) (md : BitVec 2) (rm : BitVec 3) (bs : List Byte) : Read MemForm :=
  match z with
  | .s16 => readMem16 md rm bs
  | .s32 => readMem32 md rm bs

/-- `mod = 11` names a register (R107). -/
def readRm8 (z : Size) (x : ModRM) (bs : List Byte) : Read Rm8 :=
  if x.md = 3 then .ok (.reg (Reg8.ofBits x.rm), bs)
  else
    Read.andThen (readMem z x.md x.rm bs) fun f bs =>
    .ok (.mem f, bs)

def readRmv (z : Size) (x : ModRM) (bs : List Byte) : Read Rmv :=
  if x.md = 3 then .ok (.reg (Gpr.ofBits x.rm), bs)
  else
    Read.andThen (readMem z x.md x.rm bs) fun f bs =>
    .ok (.mem f, bs)

/-- An immediate of the operand size (R113). -/
def readIz (z : Size) (bs : List Byte) : Read Iz :=
  match z with
  | .s16 =>
    Read.andThen (readHalf bs) fun v bs =>
    .ok (.i16 v, bs)
  | .s32 =>
    Read.andThen (readWord bs) fun v bs =>
    .ok (.i32 v, bs)

/-- An offset of the address size (R114). -/
def readMoffs (z : Size) (bs : List Byte) : Read Moffs :=
  match z with
  | .s16 =>
    Read.andThen (readHalf bs) fun v bs =>
    .ok (.o16 v, bs)
  | .s32 =>
    Read.andThen (readWord bs) fun v bs =>
    .ok (.o32 v, bs)

/-! Operand shapes of the rows (R125): `z` is the address size, `o` the operand size, `f` the row's constructor. -/

def rowRm8R8 (z : Size) (f : Rm8 → Reg8 → Instr) (bs : List Byte) : Read Instr :=
  Read.andThen (readModRM bs) fun x bs =>
  Read.andThen (readRm8 z x bs) fun rm bs =>
  .ok (f rm (Reg8.ofBits x.reg), bs)

def rowRmvRv (z : Size) (f : Rmv → Gpr → Instr) (bs : List Byte) : Read Instr :=
  Read.andThen (readModRM bs) fun x bs =>
  Read.andThen (readRmv z x bs) fun rm bs =>
  .ok (f rm (Gpr.ofBits x.reg), bs)

def rowR8Rm8 (z : Size) (f : Reg8 → Rm8 → Instr) (bs : List Byte) : Read Instr :=
  rowRm8R8 z (fun rm r => f r rm) bs

def rowRvRmv (z : Size) (f : Gpr → Rmv → Instr) (bs : List Byte) : Read Instr :=
  rowRmvRv z (fun rm r => f r rm) bs

def rowImm8 (f : Byte → Instr) (bs : List Byte) : Read Instr :=
  Read.andThen (readByte bs) fun v bs =>
  .ok (f v, bs)

def rowIz (o : Size) (f : Iz → Instr) (bs : List Byte) : Read Instr :=
  Read.andThen (readIz o bs) fun v bs =>
  .ok (f v, bs)

def rowMoffs (z : Size) (f : Moffs → Instr) (bs : List Byte) : Read Instr :=
  Read.andThen (readMoffs z bs) fun a bs =>
  .ok (f a, bs)

/-- A group of `/digit` rows with a byte r/m operand; `f` gives the row of a digit, if there is one. -/
def groupRm8 (z : Size) (op : Byte) (f : BitVec 3 → Option (Rm8 → Instr)) (bs : List Byte) : Read Instr :=
  Read.andThen (readModRM bs) fun x bs =>
  match f x.reg with
  | none => .error (.notInGroup op x.reg)
  | some g =>
    Read.andThen (readRm8 z x bs) fun rm bs =>
    .ok (g rm, bs)

def groupRmv (z : Size) (op : Byte) (f : BitVec 3 → Option (Rmv → Instr)) (bs : List Byte) : Read Instr :=
  Read.andThen (readModRM bs) fun x bs =>
  match f x.reg with
  | none => .error (.notInGroup op x.reg)
  | some g =>
    Read.andThen (readRmv z x bs) fun rm bs =>
    .ok (g rm, bs)

def groupRm8Imm8 (z : Size) (op : Byte) (f : BitVec 3 → Option (Rm8 → Byte → Instr)) (bs : List Byte) : Read Instr :=
  Read.andThen (readModRM bs) fun x bs =>
  match f x.reg with
  | none => .error (.notInGroup op x.reg)
  | some g =>
    Read.andThen (readRm8 z x bs) fun rm bs =>
    Read.andThen (readByte bs) fun v bs =>
    .ok (g rm v, bs)

def groupRmvImm8 (z : Size) (op : Byte) (f : BitVec 3 → Option (Rmv → Byte → Instr)) (bs : List Byte) : Read Instr :=
  Read.andThen (readModRM bs) fun x bs =>
  match f x.reg with
  | none => .error (.notInGroup op x.reg)
  | some g =>
    Read.andThen (readRmv z x bs) fun rm bs =>
    Read.andThen (readByte bs) fun v bs =>
    .ok (g rm v, bs)

def groupRmvIz (z o : Size) (op : Byte) (f : BitVec 3 → Option (Rmv → Iz → Instr)) (bs : List Byte) : Read Instr :=
  Read.andThen (readModRM bs) fun x bs =>
  match f x.reg with
  | none => .error (.notInGroup op x.reg)
  | some g =>
    Read.andThen (readRmv z x bs) fun rm bs =>
    Read.andThen (readIz o bs) fun v bs =>
    .ok (g rm v, bs)

/-- The row of a group that has one admitted digit. -/
def onlyDigit {α : Type} (k : BitVec 3) (g : α) (d : BitVec 3) : Option α := if d = k then some g else none

/-- The rows of a shift group: /4 SHL and /5 SHR (R118). -/
def shiftDigit {α : Type} (shl shr : α) (d : BitVec 3) : Option α :=
  if d = 4 then some shl else if d = 5 then some shr else none

/-- The rows /0 INC and /1 DEC of FE. -/
def incDecDigit {α : Type} (inc dec : α) (d : BitVec 3) : Option α :=
  if d = 0 then some inc else if d = 1 then some dec else none

/-- The rows /0 INC, /1 DEC and /6 PUSH of FF. -/
def groupFF (d : BitVec 3) : Option (Rmv → Instr) :=
  if d = 6 then some .pushRmv else incDecDigit .incRmv .decRmv d

/-- 8C: the segment register field 0 to 5 (R120). -/
def rowRm16Sreg (z : Size) (bs : List Byte) : Read Instr :=
  Read.andThen (readModRM bs) fun x bs =>
  match Sreg.ofBits? x.reg with
  | none => .error (.segmentField 0x8C x.reg)
  | some s =>
    Read.andThen (readRmv z x bs) fun rm bs =>
    .ok (.movRm16Sreg rm s, bs)

/-- 8E: the segment register field 0, 2, 3, 4 or 5 (R120). -/
def rowSregRm16 (z : Size) (bs : List Byte) : Read Instr :=
  Read.andThen (readModRM bs) fun x bs =>
  match Sreg.ofBits? x.reg with
  | none => .error (.segmentField 0x8E x.reg)
  | some s =>
    if s = .cs then .error (.segmentField 0x8E x.reg)
    else
      Read.andThen (readRmv z x bs) fun rm bs =>
      .ok (.movSregRm16 s rm, bs)

/-- 0F 20 and 0F 22: CR0, CR2 or CR3; `mod` ignored (R108, R120). -/
def rowCr (f : BitVec 2 → Cr → Gpr → Instr) (bs : List Byte) : Read Instr :=
  Read.andThen (readModRM bs) fun x bs =>
  match x.reg.toNat with
  | 0 => .ok (f x.md .cr0 (Gpr.ofBits x.rm), bs)
  | 2 => .ok (f x.md .cr2 (Gpr.ofBits x.rm), bs)
  | 3 => .ok (f x.md .cr3 (Gpr.ofBits x.rm), bs)
  | _ => .error (.controlRegister x.reg)

/-- 0F 21 and 0F 23: DR0 to DR3, DR6 or DR7; `mod` ignored (R108, R120). -/
def rowDr (f : BitVec 2 → Fin 8 → Gpr → Instr) (bs : List Byte) : Read Instr :=
  Read.andThen (readModRM bs) fun x bs =>
  if drAdmitted x.reg.toFin then .ok (f x.md x.reg.toFin (Gpr.ofBits x.rm), bs) else .error (.debugRegister x.reg)

/-- 0F 24 and 0F 26: TR3 to TR7; `mod` ignored (R108, R120). -/
def rowTr (f : BitVec 2 → Fin 8 → Gpr → Instr) (bs : List Byte) : Read Instr :=
  Read.andThen (readModRM bs) fun x bs =>
  if trAdmitted x.reg.toFin then .ok (f x.md x.reg.toFin (Gpr.ofBits x.rm), bs) else .error (.testRegister x.reg)

/-- 0F 01: /2 LGDT and /3 LIDT, memory only (R118, R120). -/
def group0F01 (z : Size) (bs : List Byte) : Read Instr :=
  Read.andThen (readModRM bs) fun x bs =>
  match x.reg.toNat with
  | 2 => if x.md = 3 then .error .memoryOnly else
    Read.andThen (readMem z x.md x.rm bs) fun f bs =>
    .ok (.lgdt f, bs)
  | 3 => if x.md = 3 then .error .memoryOnly else
    Read.andThen (readMem z x.md x.rm bs) fun f bs =>
    .ok (.lidt f, bs)
  | _ => .error (.notInGroup 0x01 x.reg)

/-- The second opcode byte after the escape 0F (R102, R118). -/
def decode0F (z : Size) (b : Byte) (bs : List Byte) : Read Instr :=
  match b.toNat with
  | 0x01 => group0F01 z bs
  | 0x20 => rowCr (fun x c r => .movR32Cr x r c) bs
  | 0x21 => rowDr (fun x n r => .movR32Dr x r n) bs
  | 0x22 => rowCr (fun x c r => .movCrR32 x c r) bs
  | 0x23 => rowDr (fun x n r => .movDrR32 x n r) bs
  | 0x24 => rowTr (fun x n r => .movR32Tr x r n) bs
  | 0x26 => rowTr (fun x n r => .movTrR32 x n r) bs
  | 0xA0 => .ok (.pushFs, bs)
  | 0xA1 => .ok (.popFs, bs)
  | 0xA8 => .ok (.pushGs, bs)
  | 0xA9 => .ok (.popGs, bs)
  | _ => .error (.notARow0F b)

/-- The one-byte opcodes without a register in bits 2:0 (R118). -/
def decodePlain (z o : Size) (b : Byte) (bs : List Byte) : Read Instr :=
  match b.toNat with
  | 0x00 => rowRm8R8 z .addRm8R8 bs
  | 0x01 => rowRmvRv z .addRmvRv bs
  | 0x02 => rowR8Rm8 z .addR8Rm8 bs
  | 0x03 => rowRvRmv z .addRvRmv bs
  | 0x04 => rowImm8 .addAlImm8 bs
  | 0x05 => rowIz o .addEaxImm bs
  | 0x06 => .ok (.pushEs, bs)
  | 0x07 => .ok (.popEs, bs)
  | 0x08 => rowRm8R8 z .orRm8R8 bs
  | 0x09 => rowRmvRv z .orRmvRv bs
  | 0x0A => rowR8Rm8 z .orR8Rm8 bs
  | 0x0B => rowRvRmv z .orRvRmv bs
  | 0x0C => rowImm8 .orAlImm8 bs
  | 0x0D => rowIz o .orEaxImm bs
  | 0x0E => .ok (.pushCs, bs)
  | 0x0F => Read.andThen (readByte bs) fun b bs => decode0F z b bs
  | 0x10 => rowRm8R8 z .adcRm8R8 bs
  | 0x11 => rowRmvRv z .adcRmvRv bs
  | 0x12 => rowR8Rm8 z .adcR8Rm8 bs
  | 0x13 => rowRvRmv z .adcRvRmv bs
  | 0x14 => rowImm8 .adcAlImm8 bs
  | 0x15 => rowIz o .adcEaxImm bs
  | 0x16 => .ok (.pushSs, bs)
  | 0x17 => .ok (.popSs, bs)
  | 0x18 => rowRm8R8 z .sbbRm8R8 bs
  | 0x19 => rowRmvRv z .sbbRmvRv bs
  | 0x1A => rowR8Rm8 z .sbbR8Rm8 bs
  | 0x1B => rowRvRmv z .sbbRvRmv bs
  | 0x1C => rowImm8 .sbbAlImm8 bs
  | 0x1D => rowIz o .sbbEaxImm bs
  | 0x1E => .ok (.pushDs, bs)
  | 0x1F => .ok (.popDs, bs)
  | 0x20 => rowRm8R8 z .andRm8R8 bs
  | 0x21 => rowRmvRv z .andRmvRv bs
  | 0x22 => rowR8Rm8 z .andR8Rm8 bs
  | 0x23 => rowRvRmv z .andRvRmv bs
  | 0x24 => rowImm8 .andAlImm8 bs
  | 0x25 => rowIz o .andEaxImm bs
  | 0x28 => rowRm8R8 z .subRm8R8 bs
  | 0x29 => rowRmvRv z .subRmvRv bs
  | 0x2A => rowR8Rm8 z .subR8Rm8 bs
  | 0x2B => rowRvRmv z .subRvRmv bs
  | 0x2C => rowImm8 .subAlImm8 bs
  | 0x2D => rowIz o .subEaxImm bs
  | 0x30 => rowRm8R8 z .xorRm8R8 bs
  | 0x31 => rowRmvRv z .xorRmvRv bs
  | 0x32 => rowR8Rm8 z .xorR8Rm8 bs
  | 0x33 => rowRvRmv z .xorRvRmv bs
  | 0x34 => rowImm8 .xorAlImm8 bs
  | 0x35 => rowIz o .xorEaxImm bs
  | 0x68 => rowIz o .pushImm bs
  | 0x6A => rowImm8 .pushImm8 bs
  | 0x80 => groupRm8Imm8 z b (fun d => (AluOp.ofDigit d).map AluOp.rm8Imm8) bs
  | 0x81 => groupRmvIz z o b (fun d => (AluOp.ofDigit d).map AluOp.rmvImm) bs
  | 0x82 => groupRm8Imm8 z b (fun d => (AluOp.ofDigit d).map AluOp.rm8Imm8Alias) bs
  | 0x83 => groupRmvImm8 z b (fun d => (AluOp.ofDigit d).map AluOp.rmvImm8) bs
  | 0x88 => rowRm8R8 z .movRm8R8 bs
  | 0x89 => rowRmvRv z .movRmvRv bs
  | 0x8A => rowR8Rm8 z .movR8Rm8 bs
  | 0x8B => rowRvRmv z .movRvRmv bs
  | 0x8C => rowRm16Sreg z bs
  | 0x8E => rowSregRm16 z bs
  | 0x8F => groupRmv z b (onlyDigit 0 .popRmv) bs
  | 0xA0 => rowMoffs z .movAlMoffs bs
  | 0xA1 => rowMoffs z .movEaxMoffs bs
  | 0xA2 => rowMoffs z .movMoffsAl bs
  | 0xA3 => rowMoffs z .movMoffsEax bs
  | 0xC0 => groupRm8Imm8 z b (shiftDigit .shlRm8Imm8 .shrRm8Imm8) bs
  | 0xC1 => groupRmvImm8 z b (shiftDigit .shlRmvImm8 .shrRmvImm8) bs
  | 0xC6 => groupRm8Imm8 z b (onlyDigit 0 .movRm8Imm8) bs
  | 0xC7 => groupRmvIz z o b (onlyDigit 0 .movRmvImm) bs
  | 0xD0 => groupRm8 z b (shiftDigit .shlRm8One .shrRm8One) bs
  | 0xD1 => groupRmv z b (shiftDigit .shlRmvOne .shrRmvOne) bs
  | 0xD2 => groupRm8 z b (shiftDigit .shlRm8Cl .shrRm8Cl) bs
  | 0xD3 => groupRmv z b (shiftDigit .shlRmvCl .shrRmvCl) bs
  | 0xFE => groupRm8 z b (incDecDigit .incRm8 .decRm8) bs
  | 0xFF => groupRmv z b groupFF bs
  | _ => .error (.notARow b)

/-- An instruction from its opcode byte on (R115, R118). -/
def decodeOpcode (m : CodeMode) (p : Prefixes) (b : Byte) (bs : List Byte) : Read Instr :=
  let r : BitVec 3 := b.extractLsb' 0 3
  match b.toNat / 8 with
  | 0x08 => .ok (.incRv (Gpr.ofBits r), bs)
  | 0x09 => .ok (.decRv (Gpr.ofBits r), bs)
  | 0x0A => .ok (.pushRv (Gpr.ofBits r), bs)
  | 0x0B => .ok (.popRv (Gpr.ofBits r), bs)
  | 0x16 => rowImm8 (.movR8Imm8 (Reg8.ofBits r)) bs
  | 0x17 => rowIz (p.osz m) (.movRvImm (Gpr.ofBits r)) bs
  | _ => decodePlain (p.asz m) (p.osz m) b bs

/-- The prefix bytes (R103). -/
def Pfx.ofByte? (b : Byte) : Option Pfx :=
  match b.toNat with
  | 0x26 => some .es
  | 0x2E => some .cs
  | 0x36 => some .ss
  | 0x3E => some .ds
  | 0x64 => some .fs
  | 0x65 => some .gs
  | 0x66 => some .opsize
  | 0x67 => some .adsize
  | 0xF0 => some .lock
  | 0xF2 => some .repne
  | 0xF3 => some .rep
  | _ => none

/-- The prefix row that stands before the instruction `i`. -/
def Pfx.wrap (x : Pfx) (i : Instr) : Instr :=
  match x with
  | .es => .segEs i
  | .cs => .segCs i
  | .ss => .segSs i
  | .ds => .segDs i
  | .fs => .segFs i
  | .gs => .segGs i
  | .opsize => .opsize i
  | .adsize => .adsize i
  | .lock => .lock i
  | .repne => .repne i
  | .rep => .rep i

/-- The instruction that the bytes begin with, after the prefixes `p` (R102, R104). -/
def decodeFrom (m : CodeMode) (p : Prefixes) : List Byte → Read Instr
  | [] => .error .truncated
  | b :: bs =>
    match Pfx.ofByte? b with
    | some x =>
      match decodeFrom m (x.apply p) bs with
      | .ok (i, rest) => .ok (x.wrap i, rest)
      | .error e => .error e
    | none => decodeOpcode m p b bs

/-- The instruction that the bytes begin with under the code segment's sizes, or why it is refused: at most the first 15
bytes are looked at (R102), and LOCK is refused where it is not allowed (R120). -/
def decode (m : CodeMode) (bs : List Byte) : Except DecodeError Instr :=
  match decodeFrom m {} (bs.take Config.maxLength) with
  | .error e => .error e
  | .ok (i, _) => if (i.record m {}).lockOk then .ok i else .error .lockNotAllowed

/-! The encoder. -/

/-- A ModRM or SIB byte (R107, R111). -/
def modrm (md : BitVec 2) (reg rm : BitVec 3) : Byte := md ++ reg ++ rm

/-- The opcode byte of a `+r` row (R115). -/
def plusR (b : Byte) (r : BitVec 3) : Byte := b ||| r.setWidth 8

def Disp16.mode : Disp16 → BitVec 2
  | .d0 => 0 | .d8 _ => 1 | .d16 _ => 2

def Disp16.encode : Disp16 → List Byte
  | .d0 => []
  | .d8 d => [d]
  | .d16 d => Half.bytes d

def Disp32.mode : Disp32 → BitVec 2
  | .d0 => 0 | .d8 _ => 1 | .d32 _ => 2

def Disp32.encode : Disp32 → List Byte
  | .d0 => []
  | .d8 d => [d]
  | .d32 d => Word.bytes d

/-- ModRM with the given `reg` field, SIB and displacement (R109 to R112). -/
def MemForm.encode (f : MemForm) (reg : BitVec 3) : List Byte :=
  match f with
  | .direct16 d => modrm 0 reg 6 :: Half.bytes d
  | .based16 b d => modrm d.mode reg b.bits :: d.encode
  | .direct32 d => modrm 0 reg 5 :: Word.bytes d
  | .based32 b d => modrm d.mode reg b.bits :: d.encode
  | .sib32 sc ix b d => modrm d.mode reg 4 :: modrm sc.bits ix.bits b.bits :: d.encode
  | .sibNoBase sc ix d => modrm 0 reg 4 :: modrm sc.bits ix.bits 5 :: Word.bytes d

def Rm8.encode (rm : Rm8) (reg : BitVec 3) : List Byte :=
  match rm with
  | .reg r => [modrm 3 reg r.bits]
  | .mem f => f.encode reg

def Rmv.encode (rm : Rmv) (reg : BitVec 3) : List Byte :=
  match rm with
  | .reg r => [modrm 3 reg r.bits]
  | .mem f => f.encode reg

def Moffs.encode : Moffs → List Byte
  | .o16 d => Half.bytes d
  | .o32 d => Word.bytes d

def Iz.encode : Iz → List Byte
  | .i16 v => Half.bytes v
  | .i32 v => Word.bytes v

/-- The bytes of an instruction, from the encodings of R118. -/
def Instr.encode : Instr → List Byte
  | .segEs i => 0x26#8 :: i.encode
  | .segCs i => 0x2E#8 :: i.encode
  | .segSs i => 0x36#8 :: i.encode
  | .segDs i => 0x3E#8 :: i.encode
  | .segFs i => 0x64#8 :: i.encode
  | .segGs i => 0x65#8 :: i.encode
  | .opsize i => 0x66#8 :: i.encode
  | .adsize i => 0x67#8 :: i.encode
  | .lock i => 0xF0#8 :: i.encode
  | .repne i => 0xF2#8 :: i.encode
  | .rep i => 0xF3#8 :: i.encode
  | .movRm8R8 rm r => 0x88#8 :: rm.encode r.bits
  | .movRmvRv rm r => 0x89#8 :: rm.encode r.bits
  | .movR8Rm8 r rm => 0x8A#8 :: rm.encode r.bits
  | .movRvRmv r rm => 0x8B#8 :: rm.encode r.bits
  | .movRm16Sreg rm sr => 0x8C#8 :: rm.encode sr.bits
  | .movSregRm16 sr rm => 0x8E#8 :: rm.encode sr.bits
  | .movAlMoffs a => 0xA0#8 :: a.encode
  | .movEaxMoffs a => 0xA1#8 :: a.encode
  | .movMoffsAl a => 0xA2#8 :: a.encode
  | .movMoffsEax a => 0xA3#8 :: a.encode
  | .movR8Imm8 r v => plusR 0xB0#8 r.bits :: [v]
  | .movRvImm r v => plusR 0xB8#8 r.bits :: v.encode
  | .movRm8Imm8 rm v => 0xC6#8 :: rm.encode 0#3 ++ [v]
  | .movRmvImm rm v => 0xC7#8 :: rm.encode 0#3 ++ v.encode
  | .movR32Cr x r c => [0x0F#8, 0x20#8, modrm x (c.bits) r.bits]
  | .movCrR32 x c r => [0x0F#8, 0x22#8, modrm x (c.bits) r.bits]
  | .movR32Dr x r n => [0x0F#8, 0x21#8, modrm x (regBits n) r.bits]
  | .movDrR32 x n r => [0x0F#8, 0x23#8, modrm x (regBits n) r.bits]
  | .movR32Tr x r n => [0x0F#8, 0x24#8, modrm x (regBits n) r.bits]
  | .movTrR32 x n r => [0x0F#8, 0x26#8, modrm x (regBits n) r.bits]
  | .addRm8R8 rm r => 0x00#8 :: rm.encode r.bits
  | .addRmvRv rm r => 0x01#8 :: rm.encode r.bits
  | .addR8Rm8 r rm => 0x02#8 :: rm.encode r.bits
  | .addRvRmv r rm => 0x03#8 :: rm.encode r.bits
  | .addAlImm8 v => [0x04#8, v]
  | .addEaxImm v => 0x05#8 :: v.encode
  | .addRm8Imm8 rm v => 0x80#8 :: rm.encode 0#3 ++ [v]
  | .addRmvImm rm v => 0x81#8 :: rm.encode 0#3 ++ v.encode
  | .addRm8Imm8Alias rm v => 0x82#8 :: rm.encode 0#3 ++ [v]
  | .addRmvImm8 rm v => 0x83#8 :: rm.encode 0#3 ++ [v]
  | .orRm8R8 rm r => 0x08#8 :: rm.encode r.bits
  | .orRmvRv rm r => 0x09#8 :: rm.encode r.bits
  | .orR8Rm8 r rm => 0x0A#8 :: rm.encode r.bits
  | .orRvRmv r rm => 0x0B#8 :: rm.encode r.bits
  | .orAlImm8 v => [0x0C#8, v]
  | .orEaxImm v => 0x0D#8 :: v.encode
  | .orRm8Imm8 rm v => 0x80#8 :: rm.encode 1#3 ++ [v]
  | .orRmvImm rm v => 0x81#8 :: rm.encode 1#3 ++ v.encode
  | .orRm8Imm8Alias rm v => 0x82#8 :: rm.encode 1#3 ++ [v]
  | .orRmvImm8 rm v => 0x83#8 :: rm.encode 1#3 ++ [v]
  | .adcRm8R8 rm r => 0x10#8 :: rm.encode r.bits
  | .adcRmvRv rm r => 0x11#8 :: rm.encode r.bits
  | .adcR8Rm8 r rm => 0x12#8 :: rm.encode r.bits
  | .adcRvRmv r rm => 0x13#8 :: rm.encode r.bits
  | .adcAlImm8 v => [0x14#8, v]
  | .adcEaxImm v => 0x15#8 :: v.encode
  | .adcRm8Imm8 rm v => 0x80#8 :: rm.encode 2#3 ++ [v]
  | .adcRmvImm rm v => 0x81#8 :: rm.encode 2#3 ++ v.encode
  | .adcRm8Imm8Alias rm v => 0x82#8 :: rm.encode 2#3 ++ [v]
  | .adcRmvImm8 rm v => 0x83#8 :: rm.encode 2#3 ++ [v]
  | .sbbRm8R8 rm r => 0x18#8 :: rm.encode r.bits
  | .sbbRmvRv rm r => 0x19#8 :: rm.encode r.bits
  | .sbbR8Rm8 r rm => 0x1A#8 :: rm.encode r.bits
  | .sbbRvRmv r rm => 0x1B#8 :: rm.encode r.bits
  | .sbbAlImm8 v => [0x1C#8, v]
  | .sbbEaxImm v => 0x1D#8 :: v.encode
  | .sbbRm8Imm8 rm v => 0x80#8 :: rm.encode 3#3 ++ [v]
  | .sbbRmvImm rm v => 0x81#8 :: rm.encode 3#3 ++ v.encode
  | .sbbRm8Imm8Alias rm v => 0x82#8 :: rm.encode 3#3 ++ [v]
  | .sbbRmvImm8 rm v => 0x83#8 :: rm.encode 3#3 ++ [v]
  | .andRm8R8 rm r => 0x20#8 :: rm.encode r.bits
  | .andRmvRv rm r => 0x21#8 :: rm.encode r.bits
  | .andR8Rm8 r rm => 0x22#8 :: rm.encode r.bits
  | .andRvRmv r rm => 0x23#8 :: rm.encode r.bits
  | .andAlImm8 v => [0x24#8, v]
  | .andEaxImm v => 0x25#8 :: v.encode
  | .andRm8Imm8 rm v => 0x80#8 :: rm.encode 4#3 ++ [v]
  | .andRmvImm rm v => 0x81#8 :: rm.encode 4#3 ++ v.encode
  | .andRm8Imm8Alias rm v => 0x82#8 :: rm.encode 4#3 ++ [v]
  | .andRmvImm8 rm v => 0x83#8 :: rm.encode 4#3 ++ [v]
  | .subRm8R8 rm r => 0x28#8 :: rm.encode r.bits
  | .subRmvRv rm r => 0x29#8 :: rm.encode r.bits
  | .subR8Rm8 r rm => 0x2A#8 :: rm.encode r.bits
  | .subRvRmv r rm => 0x2B#8 :: rm.encode r.bits
  | .subAlImm8 v => [0x2C#8, v]
  | .subEaxImm v => 0x2D#8 :: v.encode
  | .subRm8Imm8 rm v => 0x80#8 :: rm.encode 5#3 ++ [v]
  | .subRmvImm rm v => 0x81#8 :: rm.encode 5#3 ++ v.encode
  | .subRm8Imm8Alias rm v => 0x82#8 :: rm.encode 5#3 ++ [v]
  | .subRmvImm8 rm v => 0x83#8 :: rm.encode 5#3 ++ [v]
  | .xorRm8R8 rm r => 0x30#8 :: rm.encode r.bits
  | .xorRmvRv rm r => 0x31#8 :: rm.encode r.bits
  | .xorR8Rm8 r rm => 0x32#8 :: rm.encode r.bits
  | .xorRvRmv r rm => 0x33#8 :: rm.encode r.bits
  | .xorAlImm8 v => [0x34#8, v]
  | .xorEaxImm v => 0x35#8 :: v.encode
  | .xorRm8Imm8 rm v => 0x80#8 :: rm.encode 6#3 ++ [v]
  | .xorRmvImm rm v => 0x81#8 :: rm.encode 6#3 ++ v.encode
  | .xorRm8Imm8Alias rm v => 0x82#8 :: rm.encode 6#3 ++ [v]
  | .xorRmvImm8 rm v => 0x83#8 :: rm.encode 6#3 ++ [v]
  | .incRv r => [plusR 0x40#8 r.bits]
  | .incRm8 rm => 0xFE#8 :: rm.encode 0#3
  | .incRmv rm => 0xFF#8 :: rm.encode 0#3
  | .decRv r => [plusR 0x48#8 r.bits]
  | .decRm8 rm => 0xFE#8 :: rm.encode 1#3
  | .decRmv rm => 0xFF#8 :: rm.encode 1#3
  | .shlRm8Imm8 rm v => 0xC0#8 :: rm.encode 4#3 ++ [v]
  | .shlRmvImm8 rm v => 0xC1#8 :: rm.encode 4#3 ++ [v]
  | .shlRm8One rm => 0xD0#8 :: rm.encode 4#3
  | .shlRmvOne rm => 0xD1#8 :: rm.encode 4#3
  | .shlRm8Cl rm => 0xD2#8 :: rm.encode 4#3
  | .shlRmvCl rm => 0xD3#8 :: rm.encode 4#3
  | .shrRm8Imm8 rm v => 0xC0#8 :: rm.encode 5#3 ++ [v]
  | .shrRmvImm8 rm v => 0xC1#8 :: rm.encode 5#3 ++ [v]
  | .shrRm8One rm => 0xD0#8 :: rm.encode 5#3
  | .shrRmvOne rm => 0xD1#8 :: rm.encode 5#3
  | .shrRm8Cl rm => 0xD2#8 :: rm.encode 5#3
  | .shrRmvCl rm => 0xD3#8 :: rm.encode 5#3
  | .pushRv r => [plusR 0x50#8 r.bits]
  | .pushRmv rm => 0xFF#8 :: rm.encode 6#3
  | .pushImm v => 0x68#8 :: v.encode
  | .pushImm8 v => [0x6A#8, v]
  | .pushEs => [0x06#8]
  | .pushCs => [0x0E#8]
  | .pushSs => [0x16#8]
  | .pushDs => [0x1E#8]
  | .pushFs => [0x0F#8, 0xA0#8]
  | .pushGs => [0x0F#8, 0xA8#8]
  | .popRv r => [plusR 0x58#8 r.bits]
  | .popRmv rm => 0x8F#8 :: rm.encode 0#3
  | .popEs => [0x07#8]
  | .popSs => [0x17#8]
  | .popDs => [0x1F#8]
  | .popFs => [0x0F#8, 0xA1#8]
  | .popGs => [0x0F#8, 0xA9#8]
  | .lgdt f => 0x0F#8 :: 0x01#8 :: f.encode 2#3
  | .lidt f => 0x0F#8 :: 0x01#8 :: f.encode 3#3

/-! The opcode table's numbering of an instruction's bits. -/

/-- The defaults right after reset: CS has 16-bit sizes (10_state.md R59). -/
def CodeMode.atReset : CodeMode := ⟨.s16, .s16⟩

/-- The bytes of an instruction of `nbits` bits, bit 0 the least significant bit of the first byte, every later bit 0,
as long as the longest instruction. -/
def tableWordBytes (nbits w : Nat) : List Byte := bytesOf Config.maxLength (w % 2 ^ nbits)

/-- The instruction the decoder reads from those bytes with the sizes of the reset code segment (log 9). -/
def decodeTableWord (nbits w : Nat) : Option Instr :=
  match decode CodeMode.atReset (tableWordBytes nbits w) with
  | .ok i => some i
  | .error _ => none

end Sys2Proof
end

