-- ==== Sys2Proof/Machine/State.lean ====
section
/-! DEFINITION. The machine's state as plain data (10_state.md R20), why a step can stop (60_exceptions.md R236), and the state after reset (R57 to R63). -/

namespace Sys2Proof.Machine

/-- The eight 32-bit general-register cells (R22). -/
structure GprFile where
  eax : Word
  ecx : Word
  edx : Word
  ebx : Word
  esp : Word
  ebp : Word
  esi : Word
  edi : Word
  deriving DecidableEq, Repr

/-- A segment register: the selector and the hidden descriptor cache (R37, R38). -/
structure SegReg where
  selector : Half
  base : Word
  limit : Word
  addressSize : Size
  operandSize : Size
  deriving DecidableEq, Repr

/-- The six segment registers (R36). -/
structure SegFile where
  es : SegReg
  cs : SegReg
  ss : SegReg
  ds : SegReg
  fs : SegReg
  gs : SegReg
  deriving DecidableEq, Repr

/-- The control registers CR0 to CR3 (R41, R42). -/
structure CrFile where
  cr0 : Word
  cr1 : Word
  cr2 : Word
  cr3 : Word
  deriving DecidableEq, Repr

/-- Eight 32-bit registers known by number: DR0 to DR7 (R45), TR0 to TR7 (R47). -/
structure Bank8 where
  r0 : Word
  r1 : Word
  r2 : Word
  r3 : Word
  r4 : Word
  r5 : Word
  r6 : Word
  r7 : Word
  deriving DecidableEq, Repr

/-- GDTR or IDTR (R48). -/
structure TableReg where
  base : Word
  limit : Half
  deriving DecidableEq, Repr

/-- LDTR (R48). -/
structure LdtReg where
  selector : Half
  base : Word
  limit : Word
  deriving DecidableEq, Repr

/-- The bytes behind the Memory collaborator (20_memory.md R70, R73): the cells that differ from what an unlisted
address reads as, addresses strictly rising (`Memory.wf`). -/
structure Memory where
  cells : List Host.Cell
  deriving DecidableEq, Repr

/-- The processor state (R20) and the memory it reaches (log 2). -/
structure State where
  gpr : GprFile
  eip : Word
  eflags : Word
  seg : SegFile
  cr : CrFile
  dr : Bank8
  tr : Bank8
  gdtr : TableReg
  idtr : TableReg
  ldtr : LdtReg
  /-- Hidden flag (R50): while it is set the driver executes no instruction. -/
  halt : Bool
  /-- Hidden flag (R51): the one-instruction interrupt shadow of a load of SS. -/
  holdIRQ : Bool
  /-- Hidden flag (R52): reserved for the delivery mechanism outside the block. -/
  exception : Bool
  mem : Memory
  deriving DecidableEq, Repr

/-- What an `UnsupportedFeature` failure is about (R238: "No other cause exists in the admitted subset"). -/
inductive Unsupported where
  | ldtSelector
  deriving DecidableEq, Repr

/-- What is wrong with the operand of an `InvalidOperand` failure (R166, R239). -/
inductive Invalid where
  /-- Evaluate or Store of an operand of undefined kind. -/
  | undefinedKind
  /-- Store to an immediate or far operand: "immediate used as a destination". -/
  | immediateDestination
  /-- A non-Mem operand given to LGDT or LIDT. -/
  | notMemory
  deriving DecidableEq, Repr

/-- The engine's failure results (R15, R236): they end the run, the state being as before the instruction (R237, R240). -/
inductive Fault where
  /-- Raised by a protected-mode segment load whose selector has TI = 1 (R147, R238). Safe: the spec's own stop. -/
  | unsupportedFeature (kind : Unsupported) (selector : Half)
  /-- Raised by Evaluate, Store, LGDT and LIDT (R166, R239); no admitted encoding leads to it. Safe: the spec's own stop. -/
  | invalidOperand (kind : Invalid) (operand : Operand)
  deriving DecidableEq, Repr

/-- Why the model gives an input no meaning. -/
inductive Refusal where
  /-- Raised by an arm of `exec` without a meaning. No arm is left so. Safe. -/
  | notModelled (mnemonic : String)
  /-- Raised by `step`: the decoder refuses the bytes at CS:EIP by name (30_encoding.md R120, R121). Safe. -/
  | undecodable (why : DecodeError)
  /-- Raised by the driver's `deliverInterrupt` in protected mode, whose delivery "is not described by any source and is
  not specified" (R248). No step of the engine raises it. Safe. -/
  | protectedModeDelivery (vector : Byte)
  deriving DecidableEq, Repr

/-- Reset values of a segment register other than CS (R59). -/
def SegReg.reset : SegReg := ⟨0x0000#16, 0x00000000#32, 0x0000FFFF#32, .s16, .s16⟩

/-- Reset value of CS (R59): its base is not its selector shifted (90_conflicts.md C3). -/
def SegReg.resetCs : SegReg := ⟨0xF000#16, 0xFFFF0000#32, 0x0000FFFF#32, .s16, .s16⟩

/-- The state right after reset (R57 to R63, 70_reset_and_hazards.md R260), for the parameters `RESET_EAX` and
`CPU_SIGNATURE` (R63). Memory lists nothing (log 1). -/
def State.resetWith (resetEax cpuSignature : Word) : State where
  gpr := ⟨resetEax, 0, cpuSignature, 0, 0, 0, 0, 0⟩
  eip := 0x0000FFF0#32
  eflags := 0x00000002#32
  seg := ⟨.reset, .resetCs, .reset, .reset, .reset, .reset⟩
  cr := ⟨0x60000010#32, 0, 0, 0⟩
  dr := ⟨0, 0, 0, 0, 0, 0, 0xFFFF0FF0#32, 0x00000400#32⟩
  tr := ⟨0, 0, 0, 0, 0, 0, 0, 0⟩
  gdtr := ⟨0, 0xFFFF#16⟩
  idtr := ⟨0, 0xFFFF#16⟩
  ldtr := ⟨0, 0, 0x0000FFFF#32⟩
  halt := false
  holdIRQ := false
  exception := false
  mem := ⟨[]⟩

/-- The state right after reset with the parameters at their defaults (R63; log 4). -/
def State.reset : State := State.resetWith Config.resetEaxDefault Config.cpuSignatureDefault

end Sys2Proof.Machine
end

