-- ==== Sys2Proof/Machine/Flags.lean ====
section
/-! DEFINITION. EFLAGS: the flags at their positions and every flag computation (10_state.md R32 to R34, 43_alu.md R186 to R190, 44_shift.md R207 to R210). -/

namespace Sys2Proof.Machine

/-- The one-bit flags (R32). IOPL, two bits wide, has accessors of its own. -/
inductive Flag where
  | cf | pf | af | zf | sf | tf | fIf | df | of | nt | rf | vm | ac
  deriving DecidableEq, Repr

/-- The bit position of a flag (R32). -/
def Flag.pos : Flag → Nat
  | .cf => 0 | .pf => 2 | .af => 4 | .zf => 6 | .sf => 7 | .tf => 8 | .fIf => 9 | .df => 10 | .of => 11
  | .nt => 14 | .rf => 16 | .vm => 17 | .ac => 18

/-- The word with bit `k` set to `b` and every other bit kept. -/
def putBit (e : Word) (k : Nat) (b : Bool) : Word :=
  if b then e ||| BitVec.twoPow 32 k else e &&& ~~~(BitVec.twoPow 32 k)

/-- Read a flag (R33). -/
def getFlag (e : Word) (f : Flag) : Bool := e.getLsbD f.pos

/-- `flags.X <- b` (R12, R33): no other bit is disturbed. -/
def setFlag (e : Word) (f : Flag) (b : Bool) : Word := putBit e f.pos b

/-- Read IOPL, bits 13:12 (R32). -/
def getIopl (e : Word) : BitVec 2 := e.extractLsb' 12 2

/-- Write IOPL, its two bits only (R33). -/
def setIopl (e : Word) (v : BitVec 2) : Word := putBit (putBit e 12 (v.getLsbD 0)) 13 (v.getLsbD 1)

/-- A whole-register write to EFLAGS (R34): the fixed bits read as fixed whatever is written. -/
def eflagsWrite (v : Word) : Word := (v &&& 0x00077FD5#32) ||| 0x00000002#32

/-- `parity(v)`: the low byte has an even number of 1 bits (R12). -/
def parity {w : Nat} (v : BitVec w) : Bool :=
  ((List.range 8).filter fun k => v.getLsbD k).length % 2 == 0

/-- SF, ZF and PF from a result (R186). -/
def resultFlags {w : Nat} (r : BitVec w) (e : Word) : Word :=
  setFlag (setFlag (setFlag e .sf r.msb) .zf (r == 0)) .pf (parity r)

/-- A result with its carry, overflow and auxiliary carry. -/
structure Arith (w : Nat) where
  r : BitVec w
  cf : Bool
  of : Bool
  af : Bool
  deriving DecidableEq, Repr

/-- The addition core (R187). -/
def addCore {w : Nat} (a b : BitVec w) (cin : Bool) : Arith w :=
  let full : Nat := a.toNat + b.toNat + cin.toNat
  let r : BitVec w := BitVec.ofNat w full
  { r
    cf := decide (2 ^ w ≤ full)
    of := a.msb == b.msb && r.msb != a.msb
    af := decide (16 ≤ a.toNat % 16 + b.toNat % 16 + cin.toNat) }

/-- The subtraction core (R188); the auxiliary carry is the parameter `AF_SUB` (R189). -/
def subCore {w : Nat} (a b : BitVec w) (bin : Bool) : Arith w :=
  let full : Int := (a.toNat : Int) - b.toNat - bin.toNat
  let r : BitVec w := BitVec.ofInt w full
  { r
    cf := decide (full < 0)
    of := a.msb != b.msb && r.msb != a.msb
    af := Config.afSub w a b bin }

/-- EFLAGS after ADD, ADC, SUB, SBB: CF, OF, AF from the core, SF, ZF, PF from the result (R192, R194, R195, R197). -/
def arithFlags {w : Nat} (x : Arith w) (e : Word) : Word :=
  resultFlags x.r (setFlag (setFlag (setFlag e .cf x.cf) .of x.of) .af x.af)

/-- EFLAGS after INC and DEC: as `arithFlags`, CF unchanged (R199, R200). -/
def incDecFlags {w : Nat} (x : Arith w) (e : Word) : Word :=
  resultFlags x.r (setFlag (setFlag e .of x.of) .af x.af)

/-- EFLAGS after AND, OR, XOR: CF and OF cleared, SF, ZF, PF from the result, AF unchanged (R190). -/
def logicFlags {w : Nat} (r : BitVec w) (e : Word) : Word :=
  resultFlags r (setFlag (setFlag e .cf false) .of false)

/-- `OP_w(a, b, EFLAGS)` of 42_operands_move.md R167 for the two-operand ALU operations: result and new EFLAGS. -/
def aluOp {w : Nat} (op : AluOp) (a b : BitVec w) (e : Word) : BitVec w × Word :=
  match op with
  | .add => let x := addCore a b false; (x.r, arithFlags x e)
  | .adc => let x := addCore a b (getFlag e .cf); (x.r, arithFlags x e)
  | .sub => let x := subCore a b false; (x.r, arithFlags x e)
  | .sbb => let x := subCore a b (getFlag e .cf); (x.r, arithFlags x e)
  | .or => let r := a ||| b; (r, logicFlags r e)
  | .and => let r := a &&& b; (r, logicFlags r e)
  | .xor => let r := a ^^^ b; (r, logicFlags r e)

/-- INC (R199): the addition core with b = 1, its CF not written. -/
def incOp {w : Nat} (a : BitVec w) (e : Word) : BitVec w × Word :=
  let x := addCore a (BitVec.ofNat w 1) false
  (x.r, incDecFlags x e)

/-- DEC (R200): the subtraction core with b = 1, its CF not written. -/
def decOp {w : Nat} (a : BitVec w) (e : Word) : BitVec w × Word :=
  let x := subCore a (BitVec.ofNat w 1) false
  (x.r, incDecFlags x e)

/-- The masked shift count (R205). -/
def shiftCount (cnt : Byte) : Nat := (cnt &&& 0x1F#8).toNat

/-- EFLAGS after a shift by `c`, 1 to 31: CF, OF for c = 1 only, SF, ZF, PF; AF unchanged (R207 to R210). -/
def shiftFlags {w : Nat} (r : BitVec w) (c : Nat) (cf of : Bool) (e : Word) : Word :=
  let e := setFlag e .cf cf
  let e := if c = 1 then setFlag e .of of else e
  resultFlags r e

/-- SHL by `c`, 1 to 31 (R207): result and new EFLAGS. -/
def shlOp {w : Nat} (a : BitVec w) (c : Nat) (e : Word) : BitVec w × Word :=
  let r := a <<< c
  let cf := decide (c ≤ w) && a.getLsbD (w - c)
  (r, shiftFlags r c cf (r.msb != cf) e)

/-- SHR by `c`, 1 to 31 (R208). -/
def shrOp {w : Nat} (a : BitVec w) (c : Nat) (e : Word) : BitVec w × Word :=
  let r := a >>> c
  let cf := decide (c ≤ w) && a.getLsbD (c - 1)
  (r, shiftFlags r c cf a.msb e)

end Sys2Proof.Machine
end

