-- ==== Sys2Proof/Machine/Ops.lean ====
section
/-! DEFINITION. The named operations over memory, registers, segments, the stack, EIP and the instruction boundary, and interrupt entry and return, each written once. -/

namespace Sys2Proof.Machine

/-! Memory (20_memory.md R70 to R75). -/

/-- What an address that nothing has written reads as (log 1). -/
def Memory.unlisted : Byte := 0x00#8

/-- The byte a cell list gives an address. -/
def lookupCell (a : Nat) : List Host.Cell → Byte
  | [] => Memory.unlisted
  | (k, v) :: t => if a = k then v else lookupCell a t

/-- A cell put at its place in a rising list. -/
def insertCell (a : Nat) (b : Byte) : List Host.Cell → List Host.Cell
  | [] => [(a, b)]
  | (k, v) :: t => if a < k then (a, b) :: (k, v) :: t else (k, v) :: insertCell a b t

/-- `MemByte(la)` (R70). -/
def Memory.read (m : Memory) (la : Word) : Byte := lookupCell la.toNat m.cells

/-- `SetByte(la, b)` (R70), keeping the canonical form: an address that reads as an unlisted one is not listed. -/
def Memory.write (m : Memory) (la : Word) (b : Byte) : Memory :=
  let rest := m.cells.filter fun c => c.1 != la.toNat
  ⟨if b = Memory.unlisted then rest else insertCell la.toNat b rest⟩

/-- Addresses strictly rising, inside the linear space (R73), no entry that an unlisted address would give. -/
def cellsOk : Nat → List Host.Cell → Bool
  | _, [] => true
  | lo, (k, v) :: t => decide (lo ≤ k) && decide (k < 2 ^ 32) && v != Memory.unlisted && cellsOk (k + 1) t

/-- The canonical form. -/
def Memory.wf (m : Memory) : Bool := cellsOk 0 m.cells

/-- `MemRead(la, n)` (R72): n bytes at la, la + 1, ..., each address mod 2^32, in ascending order. -/
def Memory.readFrom (m : Memory) (la : Word) : Nat → List Byte
  | 0 => []
  | n + 1 => m.read la :: m.readFrom (la + 1) n

/-- `MemWrite(la, n, v)` (R72): the bytes at la, la + 1, ..., in ascending order. -/
def Memory.writeFrom (m : Memory) (la : Word) : List Byte → Memory
  | [] => m
  | b :: bs => (m.write la b).writeFrom (la + 1) bs

/-- The linear address of byte 0 of an access (R71): with 16-bit addressing the offset is wrapped first; the increment
of a later byte is not. -/
def SegReg.linear (g : SegReg) (off : Word) (asz : Size) : Word :=
  match asz with
  | .s16 => g.base + (off &&& 0x0000FFFF#32)
  | .s32 => g.base + off

/-- `SegRead(s, off, n, asz)` (R72). -/
def segRead (m : Memory) (g : SegReg) (off : Word) (n : Nat) (asz : Size) : List Byte :=
  m.readFrom (g.linear off asz) n

/-- `SegWrite(s, off, n, v, asz)` (R72), the n bytes of v given as a list. -/
def segWrite (m : Memory) (g : SegReg) (off : Word) (v : List Byte) (asz : Size) : Memory :=
  m.writeFrom (g.linear off asz) v

/-! General registers and their views (10_state.md R22 to R24). -/

def GprFile.get (g : GprFile) : Gpr → Word
  | .eax => g.eax | .ecx => g.ecx | .edx => g.edx | .ebx => g.ebx
  | .esp => g.esp | .ebp => g.ebp | .esi => g.esi | .edi => g.edi

/-- `write32` of R24. -/
def GprFile.set (g : GprFile) (r : Gpr) (v : Word) : GprFile :=
  match r with
  | .eax => { g with eax := v }
  | .ecx => { g with ecx := v }
  | .edx => { g with edx := v }
  | .ebx => { g with ebx := v }
  | .esp => { g with esp := v }
  | .ebp => { g with ebp := v }
  | .esi => { g with esi := v }
  | .edi => { g with edi := v }

/-- The 16-bit view: bits 15:0. -/
def GprFile.get16 (g : GprFile) (r : Gpr) : Half := (g.get r).extractLsb' 0 16

/-- `write16` of R24: bits 31:16 are preserved. -/
def GprFile.set16 (g : GprFile) (r : Gpr) (v : Half) : GprFile := g.set r ((g.get r).extractLsb' 16 16 ++ v)

/-- The 8-bit view. -/
def GprFile.get8 (g : GprFile) (r : Reg8) : Byte :=
  if r.high then (g.get r.cell).extractLsb' 8 8 else (g.get r.cell).extractLsb' 0 8

/-- `write8lo` and `write8hi` of R24: every other bit of the cell is preserved. -/
def GprFile.set8 (g : GprFile) (r : Reg8) (v : Byte) : GprFile :=
  if r.high then g.set r.cell ((g.get r.cell).extractLsb' 16 16 ++ v ++ (g.get r.cell).extractLsb' 0 8)
  else g.set r.cell ((g.get r.cell).extractLsb' 8 24 ++ v)

/-! The other register files. -/

def SegFile.get (f : SegFile) : Sreg → SegReg
  | .es => f.es | .cs => f.cs | .ss => f.ss | .ds => f.ds | .fs => f.fs | .gs => f.gs

def SegFile.set (f : SegFile) (s : Sreg) (v : SegReg) : SegFile :=
  match s with
  | .es => { f with es := v }
  | .cs => { f with cs := v }
  | .ss => { f with ss := v }
  | .ds => { f with ds := v }
  | .fs => { f with fs := v }
  | .gs => { f with gs := v }

def CrFile.get (f : CrFile) : Cr → Word
  | .cr0 => f.cr0 | .cr1 => f.cr1 | .cr2 => f.cr2 | .cr3 => f.cr3

/-- All 32 bits stored unchanged (R43). -/
def CrFile.set (f : CrFile) (c : Cr) (v : Word) : CrFile :=
  match c with
  | .cr0 => { f with cr0 := v }
  | .cr1 => { f with cr1 := v }
  | .cr2 => { f with cr2 := v }
  | .cr3 => { f with cr3 := v }

def Bank8.get (b : Bank8) (n : Fin 8) : Word :=
  match n with
  | 0 => b.r0 | 1 => b.r1 | 2 => b.r2 | 3 => b.r3 | 4 => b.r4 | 5 => b.r5 | 6 => b.r6 | 7 => b.r7

def Bank8.set (b : Bank8) (n : Fin 8) (v : Word) : Bank8 :=
  match n with
  | 0 => { b with r0 := v }
  | 1 => { b with r1 := v }
  | 2 => { b with r2 := v }
  | 3 => { b with r3 := v }
  | 4 => { b with r4 := v }
  | 5 => { b with r5 := v }
  | 6 => { b with r6 := v }
  | 7 => { b with r7 := v }

/-! The segmentation resolver (41_segmentation.md). -/

/-- CR0.PE: protected mode (R41, R140). -/
def State.pe (s : State) : Bool := s.cr.cr0.getLsbD 0

/-- A real-mode load (R141). -/
def realSegment (sel : Half) : SegReg := ⟨sel, sel.setWidth 32 <<< 4, 0x0000FFFF#32, .s16, .s16⟩

/-- The 20 limit bits: bytes 0 and 1 and the low nibble of byte 6 (R144, 90_conflicts.md C1). -/
def descLimit20 (d : BitVec 64) : BitVec 20 := d.extractLsb' 48 4 ++ d.extractLsb' 0 16

/-- The base: bytes 2 to 4 and byte 7 (R144). -/
def descBase (d : BitVec 64) : Word := d.extractLsb' 56 8 ++ d.extractLsb' 16 24

/-- The limit after granularity, bit 7 of byte 6 (R144). -/
def descLimit (d : BitVec 64) : Word :=
  let l : Word := (descLimit20 d).setWidth 32
  if d.getLsbD 55 then (l + 1) * 4096 - 1 else l

/-- The default size, bit 6 of byte 6 (R144). -/
def descSize (d : BitVec 64) : Size := if d.getLsbD 54 then .s32 else .s16

/-- A protected-mode load from the descriptor `d`, byte 0 in its low bits (R145). -/
def protectedSegment (sel : Half) (d : BitVec 64) : SegReg :=
  ⟨sel, descBase d, descLimit d, descSize d, descSize d⟩

/-- The linear address of the descriptor a selector names (R142, R143). -/
def State.descriptorAddress (s : State) (sel : Half) : Word :=
  s.gdtr.base + 8 * (sel.extractLsb' 3 13).setWidth 32

/-- What the resolver loads for a selector in the current mode, or the LDT failure (R141 to R147). -/
def State.resolve (s : State) (sel : Half) : Except Fault SegReg :=
  if s.pe then
    if sel.getLsbD 2 then .error (.unsupportedFeature .ldtSelector sel)
    else .ok (protectedSegment sel (valueOf 64 (s.mem.readFrom (s.descriptorAddress sel) 8)))
  else .ok (realSegment sel)

/-- `LoadSegment(s, sel)` (R140): a successful load of SS sets `holdIRQ` (R146). -/
def State.loadSegment (s : State) (r : Sreg) (sel : Half) : Except Fault State :=
  match s.resolve sel with
  | .error e => .error e
  | .ok g => .ok { s with seg := s.seg.set r g, holdIRQ := s.holdIRQ || r == .ss }

/-! Register ids (10_state.md R25 to R29). -/

/-- What a register id names (the storage column of R25). -/
inductive RegView where
  | absent
  | byte (r : Reg8)
  | half (r : Gpr)
  | full (r : Gpr)
  | eip
  | eflags
  | seg (r : Sreg)
  | gdtr
  | ldtr
  | tr (n : Fin 8)
  | idtr
  | cr (c : Cr)
  | dr (n : Fin 8)
  deriving DecidableEq, Repr

/-- The table of R25; id 0 and the ids from 56 on name nothing. -/
def RegView.ofId (id : Nat) : RegView :=
  if id = 0 then .absent
  else if id ≤ 8 then .byte (Reg8.ofBits (BitVec.ofNat 3 (id - 1)))
  else if id ≤ 16 then .half (Gpr.ofBits (BitVec.ofNat 3 (id - 9)))
  else if id ≤ 24 then .full (Gpr.ofBits (BitVec.ofNat 3 (id - 17)))
  else match id with
    | 25 => .eip
    | 26 => .eflags
    | 27 => .seg .es
    | 28 => .seg .cs
    | 29 => .seg .ss
    | 30 => .seg .ds
    | 31 => .seg .fs
    | 32 => .seg .gs
    | 33 => .gdtr
    | 34 => .ldtr
    | 35 => .tr 0
    | 36 => .tr 1
    | 37 => .tr 2
    | 38 => .tr 3
    | 39 => .tr 4
    | 40 => .tr 5
    | 41 => .tr 6
    | 42 => .tr 7
    | 43 => .idtr
    | 44 => .cr .cr0
    | 45 => .cr .cr1
    | 46 => .cr .cr2
    | 47 => .cr .cr3
    | 48 => .dr 0
    | 49 => .dr 1
    | 50 => .dr 2
    | 51 => .dr 3
    | 52 => .dr 4
    | 53 => .dr 5
    | 54 => .dr 6
    | 55 => .dr 7
    | _ => .absent

/-- The size column of R25. -/
def RegView.size : RegView → Nat
  | .absent => 0
  | .byte _ => 1
  | .half _ => 2
  | .full _ => 4
  | .eip => 4
  | .eflags => 4
  | .seg _ => 2
  | .gdtr => 6
  | .ldtr => 10
  | .tr _ => 4
  | .idtr => 6
  | .cr _ => 4
  | .dr _ => 4

/-- `GetRegisterSize(id)` (R26). -/
def registerSize (id : Nat) : Nat := (RegView.ofId id).size

/-- The 6-byte image as a number: bytes 0-1 the limit, bytes 2-5 the base (R49). -/
def TableReg.image (t : TableReg) : Nat := t.limit.toNat + 2 ^ 16 * t.base.toNat

/-- The fields back from their positions in a 6-byte image (R49). -/
def TableReg.ofImage (v : Nat) : TableReg := ⟨BitVec.ofNat 32 (v / 2 ^ 16), BitVec.ofNat 16 v⟩

/-- The 10-byte image: selector, base, limit (R49). -/
def LdtReg.image (t : LdtReg) : Nat := t.selector.toNat + 2 ^ 16 * t.base.toNat + 2 ^ 48 * t.limit.toNat

def LdtReg.ofImage (v : Nat) : LdtReg :=
  ⟨BitVec.ofNat 16 v, BitVec.ofNat 32 (v / 2 ^ 16), BitVec.ofNat 32 (v / 2 ^ 48)⟩

/-- The value a view gives, zero-extended (R28). -/
def State.viewValue (s : State) : RegView → Nat
  | .absent => 0
  | .byte r => (s.gpr.get8 r).toNat
  | .half r => (s.gpr.get16 r).toNat
  | .full r => (s.gpr.get r).toNat
  | .eip => s.eip.toNat
  | .eflags => s.eflags.toNat
  | .seg r => (s.seg.get r).selector.toNat
  | .gdtr => s.gdtr.image
  | .ldtr => s.ldtr.image
  | .tr n => (s.tr.get n).toNat
  | .idtr => s.idtr.image
  | .cr c => (s.cr.get c).toNat
  | .dr n => (s.dr.get n).toNat

/-- `GetRegisterValue(id)` (R28), the images of the descriptor-table registers as little-endian numbers. -/
def State.registerValue (s : State) (id : Nat) : Nat := s.viewValue (RegView.ofId id)

/-- A register write through a view (R29), with the low `size` bytes of the number (42_operands_move.md R164). -/
def State.writeView (s : State) (x : RegView) (v : Nat) : Except Fault State :=
  match x with
  | .absent => .ok s
  | .byte r => .ok { s with gpr := s.gpr.set8 r (BitVec.ofNat 8 v) }
  | .half r => .ok { s with gpr := s.gpr.set16 r (BitVec.ofNat 16 v) }
  | .full r => .ok { s with gpr := s.gpr.set r (BitVec.ofNat 32 v) }
  | .eip => .ok { s with eip := BitVec.ofNat 32 v }
  | .eflags => .ok { s with eflags := eflagsWrite (BitVec.ofNat 32 v) }
  | .seg r => s.loadSegment r (BitVec.ofNat 16 v)
  | .gdtr => .ok { s with gdtr := .ofImage v }
  | .ldtr => .ok { s with ldtr := .ofImage v }
  | .tr n => .ok { s with tr := s.tr.set n (BitVec.ofNat 32 v) }
  | .idtr => .ok { s with idtr := .ofImage v }
  | .cr c => .ok { s with cr := s.cr.set c (BitVec.ofNat 32 v) }
  | .dr n => .ok { s with dr := s.dr.set n (BitVec.ofNat 32 v) }

/-- A register write by id (R29). -/
def State.writeRegister (s : State) (id : Nat) (v : Nat) : Except Fault State := s.writeView (RegView.ofId id) v

/-! EIP (10_state.md R30, R31). -/

/-- The defaults an instruction at CS:EIP is decoded under (R105, R106). -/
def State.codeMode (s : State) : CodeMode := ⟨s.seg.cs.addressSize, s.seg.cs.operandSize⟩

/-- The linear address of the instruction at EIP (R30). -/
def State.codeAddress (s : State) : Word := s.seg.cs.base + s.eip

/-- EIP past an instruction of `len` bytes (R31). -/
def nextEip (operandSize : Size) (eip : Word) (len : Nat) : Word :=
  match operandSize with
  | .s32 => eip + BitVec.ofNat 32 len
  | .s16 => (eip + BitVec.ofNat 32 len) &&& 0x0000FFFF#32

/-- The advance of R31, by CS and EIP as the instruction left them: of a record that stores to CS or EIP, which no encoding
gives, DESIGN CHOICE (log 23). -/
def State.advance (s : State) (len : Nat) : State := { s with eip := nextEip s.seg.cs.operandSize s.eip len }

/-- The end of an engine step (R236): success advances EIP past the instruction, a failure is reported. -/
def complete (len : Nat) : Except Fault State → Host.Outcome State Fault Refusal
  | .ok s => .next (s.advance len)
  | .error e => .fault e

/-! The stack primitives (45_stack.md R215 to R217). -/

/-- The current stack pointer: SP or ESP by the stack segment's address size (R215). -/
def State.stackPointer (s : State) : Word :=
  match s.seg.ss.addressSize with
  | .s16 => s.gpr.esp &&& 0x0000FFFF#32
  | .s32 => s.gpr.esp

/-- The stack pointer moved by `d` with its wrap (R215). -/
def State.stackPointerPlus (s : State) (d : Word) : Word :=
  match s.seg.ss.addressSize with
  | .s16 => (s.gpr.esp + d) &&& 0x0000FFFF#32
  | .s32 => s.gpr.esp + d

/-- Write SP, leaving ESP[31:16], or ESP (R215). -/
def State.setStackPointer (s : State) (t : Word) : State :=
  match s.seg.ss.addressSize with
  | .s16 => { s with gpr := s.gpr.set16 .esp (t.extractLsb' 0 16) }
  | .s32 => { s with gpr := s.gpr.set .esp t }

/-- The n low bytes of a byte sequence, zeros where it is shorter. -/
def resize (n : Nat) (v : List Byte) : List Byte := (v ++ List.replicate n 0).take n

/-- `Push(n, v)` (R216): decrement, write the n bytes, then the pointer. -/
def State.push (s : State) (n : Nat) (v : List Byte) : State :=
  let t := s.stackPointerPlus (-(BitVec.ofNat 32 n))
  ({ s with mem := segWrite s.mem s.seg.ss t (resize n v) s.seg.ss.addressSize }).setStackPointer t

/-- `Pop(n)` (R217): read the n bytes, then increment. -/
def State.pop (s : State) (n : Nat) : List Byte × State :=
  (segRead s.mem s.seg.ss s.stackPointer n s.seg.ss.addressSize,
   s.setStackPointer (s.stackPointerPlus (BitVec.ofNat 32 n)))

/-! Reset (70_reset_and_hazards.md R260, R262). -/

/-- Power-on or reset during a run: every register and hidden flag at its reset value, memory untouched (R260). -/
def State.powerReset (resetEax cpuSignature : Word) (s : State) : State :=
  { State.resetWith resetEax cpuSignature with mem := s.mem }

/-! Interrupt entry and return (60_exceptions.md R247, R248). The engine raises no exception and has no interrupt input
(R241, R243): these are the driver's operations, and no meaning of an instruction uses them. -/

/-- Real-mode delivery of vector `v`, the sequence of R248 (log 13). -/
def State.enterVector (s : State) (v : Byte) : Except Fault State :=
  let s1 := s.push 2 (bytesOf 2 s.eflags.toNat)
  let s2 := { s1 with eflags := setFlag (setFlag (setFlag s1.eflags .fIf false) .tf false) .ac false }
  let s3 := s2.push 2 (bytesOf 2 s2.seg.cs.selector.toNat)
  let s4 := s3.push 2 (bytesOf 2 s3.eip.toNat)
  let entry := s4.idtr.base + 4 * v.setWidth 32
  let ip := valueOf 16 (s4.mem.readFrom entry 2)
  let cs := valueOf 16 (s4.mem.readFrom (entry + 2) 2)
  match s4.loadSegment .cs cs with
  | .error e => .error e
  | .ok s5 => .ok { s5 with eip := ip.setWidth 32 }

/-- The return that reverses it (R248: "pop IP, CS, FLAGS"), FLAGS into EFLAGS[15:0] under R34. With CR0.PE = 1, where the
spec gives no return, it is the same sequence with the protected-mode load of CS, DESIGN CHOICE (log 13). -/
def State.leaveVector (s : State) : Except Fault State :=
  let (ip, s1) := s.pop 2
  let (cs, s2) := s1.pop 2
  let (fl, s3) := s2.pop 2
  match s3.loadSegment .cs (valueOf 16 cs) with
  | .error e => .error e
  | .ok s4 =>
    .ok { s4 with
      eip := (valueOf 16 ip).setWidth 32
      eflags := eflagsWrite (s4.eflags.extractLsb' 16 16 ++ valueOf 16 fl) }

/-- An interrupt request at a boundary (R243, R245). -/
inductive Request where
  | nmi
  | maskable (vector : Byte)
  deriving DecidableEq, Repr

/-- What may be delivered at the boundary a state stands at (R245). -/
inductive Window where
  /-- The SS shadow is up: nothing, not even an NMI. -/
  | held
  /-- IF = 0: an NMI only. -/
  | nmiOnly
  /-- IF = 1: a maskable interrupt or an NMI. -/
  | enabled
  deriving DecidableEq, Repr

/-- The interrupt window (R245). -/
def State.window (s : State) : Window :=
  if s.holdIRQ then .held else if getFlag s.eflags .fIf then .enabled else .nmiOnly

/-- The vector of NMI (R241). -/
def nmiVector : Byte := 2

/-- The driver delivers vector `v`, which also ends a halt (R254). Protected-mode delivery is not specified (R248). -/
def State.deliver (s : State) (v : Byte) : Host.Outcome State Fault Refusal :=
  if s.pe then .refused (.protectedModeDelivery v)
  else match s.enterVector v with
    | .ok t => .next { t with halt := false }
    | .error e => .fault e

/-- A boundary at which nothing is delivered: the hold is consumed (R245). -/
def State.boundary (s : State) : State := { s with holdIRQ := false }

/-- The driver at an instruction boundary, with the platform's pending request if there is one (R245, R246). At most one
is delivered at a boundary, DESIGN CHOICE (log 26). -/
def State.driverBoundary (s : State) (req : Option Request) : Host.Outcome State Fault Refusal :=
  match s.window, req with
  | .held, _ => .next s.boundary
  | _, none => .next s.boundary
  | .enabled, some (.maskable v) => s.deliver v
  | .nmiOnly, some (.maskable _) => .next s.boundary
  | _, some .nmi => s.deliver nmiVector

end Sys2Proof.Machine
end

