-- ==== Sys2Proof/Machine/Operands.lean ====
section
/-! DEFINITION. The operand multiplexer: effective addresses, Evaluate and Store over every operand kind (20_memory.md R81 to R83, 42_operands_move.md R160 to R167). -/

namespace Sys2Proof.Machine

/-- The length-tagged little-endian byte sequence of R14. -/
abbrev OperandValue := List Byte

/-- A register's value in an effective address, an absent register contributing 0 (R81). Of an id that R82 does not admit
there it is the value of R28 mod 2^32, DESIGN CHOICE (log 22). -/
def State.addressPart (s : State) : Option Nat → Word
  | none => 0
  | some id => BitVec.ofNat 32 (s.registerValue id)

/-- The effective offset of a memory operand (R81, R82), the sum alike for a scale other than 1, 2, 4 or 8, which R101 does
not admit: DESIGN CHOICE (log 22). -/
def State.offset (s : State) (base index : Option Nat) (scale : Nat) (disp : Word) (asz : Size) : Word :=
  let sum := s.addressPart base + s.addressPart index * BitVec.ofNat 32 scale + disp
  match asz with
  | .s16 => sum &&& 0x0000FFFF#32
  | .s32 => sum

/-- SP, BP, ESP and EBP: "a stack-pointer-class register" (R83). -/
def stackClass (id : Nat) : Bool := id == 13 || id == 14 || id == 21 || id == 22

/-- The segment of a memory operand: the override, else SS for a stack-pointer-class base, else DS (R83). -/
def operandSegment (seg : Option Sreg) (base : Option Nat) : Sreg :=
  match seg, base with
  | some r, _ => r
  | none, some id => if stackClass id then .ss else .ds
  | none, none => .ds

/-- The linear address of byte 0 of a memory operand (R71, R161). -/
def State.operandAddress (s : State) (seg : Option Sreg) (base index : Option Nat) (scale : Nat) (disp : Word)
    (asz : Size) : Word :=
  (s.seg.get (operandSegment seg base)).linear (s.offset base index scale disp asz) asz

/-- A k-byte immediate as n bytes, sign-extended when n is larger (R162). -/
def immBytes (value : Word) (k n : Nat) : OperandValue :=
  bytesOf n ((value.setWidth (8 * k)).signExtend (8 * max n k)).toNat

/-- `Evaluate(op, n)` (R160 to R163, R166), `seg` being the record's override. -/
def State.evaluate (s : State) (seg : Option Sreg) (op : Operand) (n : Nat) : Except Fault OperandValue :=
  match op with
  | .reg id => .ok (bytesOf n (s.registerValue id))
  | .mem base index scale disp asz => .ok (s.mem.readFrom (s.operandAddress seg base index scale disp asz) n)
  | .imm value k => .ok (immBytes value k n)
  | .far selector offset k => .ok (bytesOf k offset.toNat ++ bytesOf 2 selector.toNat)
  | .undefinedKind => .error (.invalidOperand .undefinedKind op)

/-- `Store(op, v)` (R164 to R166). The failures come before any write. -/
def State.store (s : State) (seg : Option Sreg) (op : Operand) (v : OperandValue) : Except Fault State :=
  match op with
  | .reg id => s.writeRegister id (leNat v)
  | .mem base index scale disp asz =>
    .ok { s with mem := s.mem.writeFrom (s.operandAddress seg base index scale disp asz) v }
  | .imm _ _ | .far _ _ _ => .error (.invalidOperand .immediateDestination op)
  | .undefinedKind => .error (.invalidOperand .undefinedKind op)

end Sys2Proof.Machine

namespace Sys2Proof

/-- The operand at a position; a record that lacks it has an operand of undefined kind there (log 11). -/
def Record.operand (r : Record) (k : Nat) : Operand := r.opnd.getD k .undefinedKind

end Sys2Proof
end

