-- ==== Sys2Proof/Machine/Alu.lean ====
section
/-! DEFINITION. ADD, OR, ADC, SBB, AND, SUB, XOR, INC, DEC (43_alu.md R185 to R201). -/

namespace Sys2Proof.Machine

/-- The two-operand step of 42_operands_move.md R167: destination read first, then the source, then the result stored
and the flags written. A Far operand, whose value R163 makes k + 2 bytes long whatever the width, gives its low w bits
(log 11). -/
def aluStep (op : AluOp) (r : Record) (s : State) : Except Fault State := do
  let a ← s.evaluate r.seg (r.operand 0) r.osz.bytes
  let b ← s.evaluate r.seg (r.operand 1) r.osz.bytes
  let x := aluOp op (valueOf r.osz.bits a) (valueOf r.osz.bits b) s.eflags
  let t ← s.store r.seg (r.operand 0) (bytesOf r.osz.bytes x.1.toNat)
  return { t with eflags := x.2 }

/-- The one-operand step of INC and DEC (R199, R200). -/
def incDecStep (f : (w : Nat) → BitVec w → Word → BitVec w × Word) (r : Record) (s : State) : Except Fault State := do
  let a ← s.evaluate r.seg (r.operand 0) r.osz.bytes
  let x := f r.osz.bits (valueOf r.osz.bits a) s.eflags
  let t ← s.store r.seg (r.operand 0) (bytesOf r.osz.bytes x.1.toNat)
  return { t with eflags := x.2 }

/-- The record class ADD (R192). -/
def runAdd (r : Record) (s : State) : Host.Outcome State Fault Refusal := complete r.len (aluStep .add r s)

/-- The record class OR (R193). -/
def runOr (r : Record) (s : State) : Host.Outcome State Fault Refusal := complete r.len (aluStep .or r s)

/-- The record class ADC (R194). -/
def runAdc (r : Record) (s : State) : Host.Outcome State Fault Refusal := complete r.len (aluStep .adc r s)

/-- The record class SBB (R195). -/
def runSbb (r : Record) (s : State) : Host.Outcome State Fault Refusal := complete r.len (aluStep .sbb r s)

/-- The record class AND (R196). -/
def runAnd (r : Record) (s : State) : Host.Outcome State Fault Refusal := complete r.len (aluStep .and r s)

/-- The record class SUB (R197). -/
def runSub (r : Record) (s : State) : Host.Outcome State Fault Refusal := complete r.len (aluStep .sub r s)

/-- The record class XOR (R198). -/
def runXor (r : Record) (s : State) : Host.Outcome State Fault Refusal := complete r.len (aluStep .xor r s)

/-- The record class INC (R199). -/
def runInc (r : Record) (s : State) : Host.Outcome State Fault Refusal :=
  complete r.len (incDecStep (fun _ a e => incOp a e) r s)

/-- The record class DEC (R200). -/
def runDec (r : Record) (s : State) : Host.Outcome State Fault Refusal :=
  complete r.len (incDecStep (fun _ a e => decOp a e) r s)

/-- `ADD r/m8, r8` (R192). -/
def execAddRm8R8 (rm : Rm8) (r : Reg8) (s : State) : Host.Outcome State Fault Refusal :=
  runAdd (Instr.record s.codeMode {} (.addRm8R8 rm r)) s

/-- `ADD r/m16/32, r16/32` (R192). -/
def execAddRmvRv (rm : Rmv) (r : Gpr) (s : State) : Host.Outcome State Fault Refusal :=
  runAdd (Instr.record s.codeMode {} (.addRmvRv rm r)) s

/-- `ADD r8, r/m8` (R192). -/
def execAddR8Rm8 (r : Reg8) (rm : Rm8) (s : State) : Host.Outcome State Fault Refusal :=
  runAdd (Instr.record s.codeMode {} (.addR8Rm8 r rm)) s

/-- `ADD r16/32, r/m16/32` (R192). -/
def execAddRvRmv (r : Gpr) (rm : Rmv) (s : State) : Host.Outcome State Fault Refusal :=
  runAdd (Instr.record s.codeMode {} (.addRvRmv r rm)) s

/-- `ADD AL, imm8` (R192). -/
def execAddAlImm8 (v : Byte) (s : State) : Host.Outcome State Fault Refusal :=
  runAdd (Instr.record s.codeMode {} (.addAlImm8 v)) s

/-- `ADD eAX, imm16/32` (R192). -/
def execAddEaxImm (v : Iz) (s : State) : Host.Outcome State Fault Refusal :=
  runAdd (Instr.record s.codeMode {} (.addEaxImm v)) s

/-- `ADD r/m8, imm8` (R192). -/
def execAddRm8Imm8 (rm : Rm8) (v : Byte) (s : State) : Host.Outcome State Fault Refusal :=
  runAdd (Instr.record s.codeMode {} (.addRm8Imm8 rm v)) s

/-- `ADD r/m16/32, imm16/32` (R192). -/
def execAddRmvImm (rm : Rmv) (v : Iz) (s : State) : Host.Outcome State Fault Refusal :=
  runAdd (Instr.record s.codeMode {} (.addRmvImm rm v)) s

/-- `ADD r/m8, imm8 (alias of 80)` (R192). -/
def execAddRm8Imm8Alias (rm : Rm8) (v : Byte) (s : State) : Host.Outcome State Fault Refusal :=
  runAdd (Instr.record s.codeMode {} (.addRm8Imm8Alias rm v)) s

/-- `ADD r/m16/32, imm8 (sign-extended)` (R192). -/
def execAddRmvImm8 (rm : Rmv) (v : Byte) (s : State) : Host.Outcome State Fault Refusal :=
  runAdd (Instr.record s.codeMode {} (.addRmvImm8 rm v)) s

/-- `OR r/m8, r8` (R193). -/
def execOrRm8R8 (rm : Rm8) (r : Reg8) (s : State) : Host.Outcome State Fault Refusal :=
  runOr (Instr.record s.codeMode {} (.orRm8R8 rm r)) s

/-- `OR r/m16/32, r16/32` (R193). -/
def execOrRmvRv (rm : Rmv) (r : Gpr) (s : State) : Host.Outcome State Fault Refusal :=
  runOr (Instr.record s.codeMode {} (.orRmvRv rm r)) s

/-- `OR r8, r/m8` (R193). -/
def execOrR8Rm8 (r : Reg8) (rm : Rm8) (s : State) : Host.Outcome State Fault Refusal :=
  runOr (Instr.record s.codeMode {} (.orR8Rm8 r rm)) s

/-- `OR r16/32, r/m16/32` (R193). -/
def execOrRvRmv (r : Gpr) (rm : Rmv) (s : State) : Host.Outcome State Fault Refusal :=
  runOr (Instr.record s.codeMode {} (.orRvRmv r rm)) s

/-- `OR AL, imm8` (R193). -/
def execOrAlImm8 (v : Byte) (s : State) : Host.Outcome State Fault Refusal :=
  runOr (Instr.record s.codeMode {} (.orAlImm8 v)) s

/-- `OR eAX, imm16/32` (R193). -/
def execOrEaxImm (v : Iz) (s : State) : Host.Outcome State Fault Refusal :=
  runOr (Instr.record s.codeMode {} (.orEaxImm v)) s

/-- `OR r/m8, imm8` (R193). -/
def execOrRm8Imm8 (rm : Rm8) (v : Byte) (s : State) : Host.Outcome State Fault Refusal :=
  runOr (Instr.record s.codeMode {} (.orRm8Imm8 rm v)) s

/-- `OR r/m16/32, imm16/32` (R193). -/
def execOrRmvImm (rm : Rmv) (v : Iz) (s : State) : Host.Outcome State Fault Refusal :=
  runOr (Instr.record s.codeMode {} (.orRmvImm rm v)) s

/-- `OR r/m8, imm8 (alias of 80)` (R193). -/
def execOrRm8Imm8Alias (rm : Rm8) (v : Byte) (s : State) : Host.Outcome State Fault Refusal :=
  runOr (Instr.record s.codeMode {} (.orRm8Imm8Alias rm v)) s

/-- `OR r/m16/32, imm8 (sign-extended)` (R193). -/
def execOrRmvImm8 (rm : Rmv) (v : Byte) (s : State) : Host.Outcome State Fault Refusal :=
  runOr (Instr.record s.codeMode {} (.orRmvImm8 rm v)) s

/-- `ADC r/m8, r8` (R194). -/
def execAdcRm8R8 (rm : Rm8) (r : Reg8) (s : State) : Host.Outcome State Fault Refusal :=
  runAdc (Instr.record s.codeMode {} (.adcRm8R8 rm r)) s

/-- `ADC r/m16/32, r16/32` (R194). -/
def execAdcRmvRv (rm : Rmv) (r : Gpr) (s : State) : Host.Outcome State Fault Refusal :=
  runAdc (Instr.record s.codeMode {} (.adcRmvRv rm r)) s

/-- `ADC r8, r/m8` (R194). -/
def execAdcR8Rm8 (r : Reg8) (rm : Rm8) (s : State) : Host.Outcome State Fault Refusal :=
  runAdc (Instr.record s.codeMode {} (.adcR8Rm8 r rm)) s

/-- `ADC r16/32, r/m16/32` (R194). -/
def execAdcRvRmv (r : Gpr) (rm : Rmv) (s : State) : Host.Outcome State Fault Refusal :=
  runAdc (Instr.record s.codeMode {} (.adcRvRmv r rm)) s

/-- `ADC AL, imm8` (R194). -/
def execAdcAlImm8 (v : Byte) (s : State) : Host.Outcome State Fault Refusal :=
  runAdc (Instr.record s.codeMode {} (.adcAlImm8 v)) s

/-- `ADC eAX, imm16/32` (R194). -/
def execAdcEaxImm (v : Iz) (s : State) : Host.Outcome State Fault Refusal :=
  runAdc (Instr.record s.codeMode {} (.adcEaxImm v)) s

/-- `ADC r/m8, imm8` (R194). -/
def execAdcRm8Imm8 (rm : Rm8) (v : Byte) (s : State) : Host.Outcome State Fault Refusal :=
  runAdc (Instr.record s.codeMode {} (.adcRm8Imm8 rm v)) s

/-- `ADC r/m16/32, imm16/32` (R194). -/
def execAdcRmvImm (rm : Rmv) (v : Iz) (s : State) : Host.Outcome State Fault Refusal :=
  runAdc (Instr.record s.codeMode {} (.adcRmvImm rm v)) s

/-- `ADC r/m8, imm8 (alias of 80)` (R194). -/
def execAdcRm8Imm8Alias (rm : Rm8) (v : Byte) (s : State) : Host.Outcome State Fault Refusal :=
  runAdc (Instr.record s.codeMode {} (.adcRm8Imm8Alias rm v)) s

/-- `ADC r/m16/32, imm8 (sign-extended)` (R194). -/
def execAdcRmvImm8 (rm : Rmv) (v : Byte) (s : State) : Host.Outcome State Fault Refusal :=
  runAdc (Instr.record s.codeMode {} (.adcRmvImm8 rm v)) s

/-- `SBB r/m8, r8` (R195). -/
def execSbbRm8R8 (rm : Rm8) (r : Reg8) (s : State) : Host.Outcome State Fault Refusal :=
  runSbb (Instr.record s.codeMode {} (.sbbRm8R8 rm r)) s

/-- `SBB r/m16/32, r16/32` (R195). -/
def execSbbRmvRv (rm : Rmv) (r : Gpr) (s : State) : Host.Outcome State Fault Refusal :=
  runSbb (Instr.record s.codeMode {} (.sbbRmvRv rm r)) s

/-- `SBB r8, r/m8` (R195). -/
def execSbbR8Rm8 (r : Reg8) (rm : Rm8) (s : State) : Host.Outcome State Fault Refusal :=
  runSbb (Instr.record s.codeMode {} (.sbbR8Rm8 r rm)) s

/-- `SBB r16/32, r/m16/32` (R195). -/
def execSbbRvRmv (r : Gpr) (rm : Rmv) (s : State) : Host.Outcome State Fault Refusal :=
  runSbb (Instr.record s.codeMode {} (.sbbRvRmv r rm)) s

/-- `SBB AL, imm8` (R195). -/
def execSbbAlImm8 (v : Byte) (s : State) : Host.Outcome State Fault Refusal :=
  runSbb (Instr.record s.codeMode {} (.sbbAlImm8 v)) s

/-- `SBB eAX, imm16/32` (R195). -/
def execSbbEaxImm (v : Iz) (s : State) : Host.Outcome State Fault Refusal :=
  runSbb (Instr.record s.codeMode {} (.sbbEaxImm v)) s

/-- `SBB r/m8, imm8` (R195). -/
def execSbbRm8Imm8 (rm : Rm8) (v : Byte) (s : State) : Host.Outcome State Fault Refusal :=
  runSbb (Instr.record s.codeMode {} (.sbbRm8Imm8 rm v)) s

/-- `SBB r/m16/32, imm16/32` (R195). -/
def execSbbRmvImm (rm : Rmv) (v : Iz) (s : State) : Host.Outcome State Fault Refusal :=
  runSbb (Instr.record s.codeMode {} (.sbbRmvImm rm v)) s

/-- `SBB r/m8, imm8 (alias of 80)` (R195). -/
def execSbbRm8Imm8Alias (rm : Rm8) (v : Byte) (s : State) : Host.Outcome State Fault Refusal :=
  runSbb (Instr.record s.codeMode {} (.sbbRm8Imm8Alias rm v)) s

/-- `SBB r/m16/32, imm8 (sign-extended)` (R195). -/
def execSbbRmvImm8 (rm : Rmv) (v : Byte) (s : State) : Host.Outcome State Fault Refusal :=
  runSbb (Instr.record s.codeMode {} (.sbbRmvImm8 rm v)) s

/-- `AND r/m8, r8` (R196). -/
def execAndRm8R8 (rm : Rm8) (r : Reg8) (s : State) : Host.Outcome State Fault Refusal :=
  runAnd (Instr.record s.codeMode {} (.andRm8R8 rm r)) s

/-- `AND r/m16/32, r16/32` (R196). -/
def execAndRmvRv (rm : Rmv) (r : Gpr) (s : State) : Host.Outcome State Fault Refusal :=
  runAnd (Instr.record s.codeMode {} (.andRmvRv rm r)) s

/-- `AND r8, r/m8` (R196). -/
def execAndR8Rm8 (r : Reg8) (rm : Rm8) (s : State) : Host.Outcome State Fault Refusal :=
  runAnd (Instr.record s.codeMode {} (.andR8Rm8 r rm)) s

/-- `AND r16/32, r/m16/32` (R196). -/
def execAndRvRmv (r : Gpr) (rm : Rmv) (s : State) : Host.Outcome State Fault Refusal :=
  runAnd (Instr.record s.codeMode {} (.andRvRmv r rm)) s

/-- `AND AL, imm8` (R196). -/
def execAndAlImm8 (v : Byte) (s : State) : Host.Outcome State Fault Refusal :=
  runAnd (Instr.record s.codeMode {} (.andAlImm8 v)) s

/-- `AND eAX, imm16/32` (R196). -/
def execAndEaxImm (v : Iz) (s : State) : Host.Outcome State Fault Refusal :=
  runAnd (Instr.record s.codeMode {} (.andEaxImm v)) s

/-- `AND r/m8, imm8` (R196). -/
def execAndRm8Imm8 (rm : Rm8) (v : Byte) (s : State) : Host.Outcome State Fault Refusal :=
  runAnd (Instr.record s.codeMode {} (.andRm8Imm8 rm v)) s

/-- `AND r/m16/32, imm16/32` (R196). -/
def execAndRmvImm (rm : Rmv) (v : Iz) (s : State) : Host.Outcome State Fault Refusal :=
  runAnd (Instr.record s.codeMode {} (.andRmvImm rm v)) s

/-- `AND r/m8, imm8 (alias of 80)` (R196). -/
def execAndRm8Imm8Alias (rm : Rm8) (v : Byte) (s : State) : Host.Outcome State Fault Refusal :=
  runAnd (Instr.record s.codeMode {} (.andRm8Imm8Alias rm v)) s

/-- `AND r/m16/32, imm8 (sign-extended)` (R196). -/
def execAndRmvImm8 (rm : Rmv) (v : Byte) (s : State) : Host.Outcome State Fault Refusal :=
  runAnd (Instr.record s.codeMode {} (.andRmvImm8 rm v)) s

/-- `SUB r/m8, r8` (R197). -/
def execSubRm8R8 (rm : Rm8) (r : Reg8) (s : State) : Host.Outcome State Fault Refusal :=
  runSub (Instr.record s.codeMode {} (.subRm8R8 rm r)) s

/-- `SUB r/m16/32, r16/32` (R197). -/
def execSubRmvRv (rm : Rmv) (r : Gpr) (s : State) : Host.Outcome State Fault Refusal :=
  runSub (Instr.record s.codeMode {} (.subRmvRv rm r)) s

/-- `SUB r8, r/m8` (R197). -/
def execSubR8Rm8 (r : Reg8) (rm : Rm8) (s : State) : Host.Outcome State Fault Refusal :=
  runSub (Instr.record s.codeMode {} (.subR8Rm8 r rm)) s

/-- `SUB r16/32, r/m16/32` (R197). -/
def execSubRvRmv (r : Gpr) (rm : Rmv) (s : State) : Host.Outcome State Fault Refusal :=
  runSub (Instr.record s.codeMode {} (.subRvRmv r rm)) s

/-- `SUB AL, imm8` (R197). -/
def execSubAlImm8 (v : Byte) (s : State) : Host.Outcome State Fault Refusal :=
  runSub (Instr.record s.codeMode {} (.subAlImm8 v)) s

/-- `SUB eAX, imm16/32` (R197). -/
def execSubEaxImm (v : Iz) (s : State) : Host.Outcome State Fault Refusal :=
  runSub (Instr.record s.codeMode {} (.subEaxImm v)) s

/-- `SUB r/m8, imm8` (R197). -/
def execSubRm8Imm8 (rm : Rm8) (v : Byte) (s : State) : Host.Outcome State Fault Refusal :=
  runSub (Instr.record s.codeMode {} (.subRm8Imm8 rm v)) s

/-- `SUB r/m16/32, imm16/32` (R197). -/
def execSubRmvImm (rm : Rmv) (v : Iz) (s : State) : Host.Outcome State Fault Refusal :=
  runSub (Instr.record s.codeMode {} (.subRmvImm rm v)) s

/-- `SUB r/m8, imm8 (alias of 80)` (R197). -/
def execSubRm8Imm8Alias (rm : Rm8) (v : Byte) (s : State) : Host.Outcome State Fault Refusal :=
  runSub (Instr.record s.codeMode {} (.subRm8Imm8Alias rm v)) s

/-- `SUB r/m16/32, imm8 (sign-extended)` (R197). -/
def execSubRmvImm8 (rm : Rmv) (v : Byte) (s : State) : Host.Outcome State Fault Refusal :=
  runSub (Instr.record s.codeMode {} (.subRmvImm8 rm v)) s

/-- `XOR r/m8, r8` (R198). -/
def execXorRm8R8 (rm : Rm8) (r : Reg8) (s : State) : Host.Outcome State Fault Refusal :=
  runXor (Instr.record s.codeMode {} (.xorRm8R8 rm r)) s

/-- `XOR r/m16/32, r16/32` (R198). -/
def execXorRmvRv (rm : Rmv) (r : Gpr) (s : State) : Host.Outcome State Fault Refusal :=
  runXor (Instr.record s.codeMode {} (.xorRmvRv rm r)) s

/-- `XOR r8, r/m8` (R198). -/
def execXorR8Rm8 (r : Reg8) (rm : Rm8) (s : State) : Host.Outcome State Fault Refusal :=
  runXor (Instr.record s.codeMode {} (.xorR8Rm8 r rm)) s

/-- `XOR r16/32, r/m16/32` (R198). -/
def execXorRvRmv (r : Gpr) (rm : Rmv) (s : State) : Host.Outcome State Fault Refusal :=
  runXor (Instr.record s.codeMode {} (.xorRvRmv r rm)) s

/-- `XOR AL, imm8` (R198). -/
def execXorAlImm8 (v : Byte) (s : State) : Host.Outcome State Fault Refusal :=
  runXor (Instr.record s.codeMode {} (.xorAlImm8 v)) s

/-- `XOR eAX, imm16/32` (R198). -/
def execXorEaxImm (v : Iz) (s : State) : Host.Outcome State Fault Refusal :=
  runXor (Instr.record s.codeMode {} (.xorEaxImm v)) s

/-- `XOR r/m8, imm8` (R198). -/
def execXorRm8Imm8 (rm : Rm8) (v : Byte) (s : State) : Host.Outcome State Fault Refusal :=
  runXor (Instr.record s.codeMode {} (.xorRm8Imm8 rm v)) s

/-- `XOR r/m16/32, imm16/32` (R198). -/
def execXorRmvImm (rm : Rmv) (v : Iz) (s : State) : Host.Outcome State Fault Refusal :=
  runXor (Instr.record s.codeMode {} (.xorRmvImm rm v)) s

/-- `XOR r/m8, imm8 (alias of 80)` (R198). -/
def execXorRm8Imm8Alias (rm : Rm8) (v : Byte) (s : State) : Host.Outcome State Fault Refusal :=
  runXor (Instr.record s.codeMode {} (.xorRm8Imm8Alias rm v)) s

/-- `XOR r/m16/32, imm8 (sign-extended)` (R198). -/
def execXorRmvImm8 (rm : Rmv) (v : Byte) (s : State) : Host.Outcome State Fault Refusal :=
  runXor (Instr.record s.codeMode {} (.xorRmvImm8 rm v)) s

/-- `INC r16/32` (R199). -/
def execIncRv (r : Gpr) (s : State) : Host.Outcome State Fault Refusal :=
  runInc (Instr.record s.codeMode {} (.incRv r)) s

/-- `INC r/m8` (R199). -/
def execIncRm8 (rm : Rm8) (s : State) : Host.Outcome State Fault Refusal :=
  runInc (Instr.record s.codeMode {} (.incRm8 rm)) s

/-- `INC r/m16/32` (R199). -/
def execIncRmv (rm : Rmv) (s : State) : Host.Outcome State Fault Refusal :=
  runInc (Instr.record s.codeMode {} (.incRmv rm)) s

/-- `DEC r16/32` (R200). -/
def execDecRv (r : Gpr) (s : State) : Host.Outcome State Fault Refusal :=
  runDec (Instr.record s.codeMode {} (.decRv r)) s

/-- `DEC r/m8` (R200). -/
def execDecRm8 (rm : Rm8) (s : State) : Host.Outcome State Fault Refusal :=
  runDec (Instr.record s.codeMode {} (.decRm8 rm)) s

/-- `DEC r/m16/32` (R200). -/
def execDecRmv (rm : Rmv) (s : State) : Host.Outcome State Fault Refusal :=
  runDec (Instr.record s.codeMode {} (.decRmv rm)) s

end Sys2Proof.Machine
end

