-- ==== Sys2Proof/Machine/Mov.lean ====
section
/-! DEFINITION. MOV in all its forms, the segment loads and the control, debug and test registers among them (42_operands_move.md R167 to R181, 41_segmentation.md R152). -/

namespace Sys2Proof.Machine

/-- The bytes a MOV moves: its width; whatever the operand size 2 into a segment register (R152), and 2 for a segment
register stored to memory (R181). -/
def movBytes (r : Record) : Nat :=
  match r.operand 0, r.operand 1 with
  | .reg id, _ => if 27 ≤ id ∧ id ≤ 32 then 2 else r.osz.bytes
  | .mem .., .reg id => if 27 ≤ id ∧ id ≤ 32 then 2 else r.osz.bytes
  | _, _ => r.osz.bytes

/-- `Store(d, Evaluate(s, n))`; no flag is written (R169 to R181). A segment register as destination is loaded by the
resolver (R152, R164). -/
def movStep (r : Record) (s : State) : Except Fault State := do
  let v ← s.evaluate r.seg (r.operand 1) (movBytes r)
  s.store r.seg (r.operand 0) v

/-- The record class MOV. -/
def runMov (r : Record) (s : State) : Host.Outcome State Fault Refusal := complete r.len (movStep r s)

/-- `MOV r/m8, r8` (R175). -/
def execMovRm8R8 (rm : Rm8) (r : Reg8) (s : State) : Host.Outcome State Fault Refusal :=
  runMov (Instr.record s.codeMode {} (.movRm8R8 rm r)) s

/-- `MOV r/m16/32, r16/32` (R175). -/
def execMovRmvRv (rm : Rmv) (r : Gpr) (s : State) : Host.Outcome State Fault Refusal :=
  runMov (Instr.record s.codeMode {} (.movRmvRv rm r)) s

/-- `MOV r8, r/m8` (R176). -/
def execMovR8Rm8 (r : Reg8) (rm : Rm8) (s : State) : Host.Outcome State Fault Refusal :=
  runMov (Instr.record s.codeMode {} (.movR8Rm8 r rm)) s

/-- `MOV r16/32, r/m16/32` (R176). -/
def execMovRvRmv (r : Gpr) (rm : Rmv) (s : State) : Host.Outcome State Fault Refusal :=
  runMov (Instr.record s.codeMode {} (.movRvRmv r rm)) s

/-- `MOV r/m16, Sreg` (R181). -/
def execMovRm16Sreg (rm : Rmv) (sr : Sreg) (s : State) : Host.Outcome State Fault Refusal :=
  runMov (Instr.record s.codeMode {} (.movRm16Sreg rm sr)) s

/-- `MOV Sreg, r/m16` (R152). -/
def execMovSregRm16 (sr : Sreg) (rm : Rmv) (s : State) : Host.Outcome State Fault Refusal :=
  runMov (Instr.record s.codeMode {} (.movSregRm16 sr rm)) s

/-- `MOV AL, moffs8` (R177). -/
def execMovAlMoffs (a : Moffs) (s : State) : Host.Outcome State Fault Refusal :=
  runMov (Instr.record s.codeMode {} (.movAlMoffs a)) s

/-- `MOV eAX, moffs16/32` (R177). -/
def execMovEaxMoffs (a : Moffs) (s : State) : Host.Outcome State Fault Refusal :=
  runMov (Instr.record s.codeMode {} (.movEaxMoffs a)) s

/-- `MOV moffs8, AL` (R178). -/
def execMovMoffsAl (a : Moffs) (s : State) : Host.Outcome State Fault Refusal :=
  runMov (Instr.record s.codeMode {} (.movMoffsAl a)) s

/-- `MOV moffs16/32, eAX` (R178). -/
def execMovMoffsEax (a : Moffs) (s : State) : Host.Outcome State Fault Refusal :=
  runMov (Instr.record s.codeMode {} (.movMoffsEax a)) s

/-- `MOV r8, imm8` (R179). -/
def execMovR8Imm8 (r : Reg8) (v : Byte) (s : State) : Host.Outcome State Fault Refusal :=
  runMov (Instr.record s.codeMode {} (.movR8Imm8 r v)) s

/-- `MOV r16/32, imm16/32` (R179). -/
def execMovRvImm (r : Gpr) (v : Iz) (s : State) : Host.Outcome State Fault Refusal :=
  runMov (Instr.record s.codeMode {} (.movRvImm r v)) s

/-- `MOV r/m8, imm8` (R180). -/
def execMovRm8Imm8 (rm : Rm8) (v : Byte) (s : State) : Host.Outcome State Fault Refusal :=
  runMov (Instr.record s.codeMode {} (.movRm8Imm8 rm v)) s

/-- `MOV r/m16/32, imm16/32` (R180). -/
def execMovRmvImm (rm : Rmv) (v : Iz) (s : State) : Host.Outcome State Fault Refusal :=
  runMov (Instr.record s.codeMode {} (.movRmvImm rm v)) s

/-- `MOV r32, CRn` (R169). -/
def execMovR32Cr (x : BitVec 2) (r : Gpr) (c : Cr) (s : State) : Host.Outcome State Fault Refusal :=
  runMov (Instr.record s.codeMode {} (.movR32Cr x r c)) s

/-- `MOV CRn, r32` (R170). -/
def execMovCrR32 (x : BitVec 2) (c : Cr) (r : Gpr) (s : State) : Host.Outcome State Fault Refusal :=
  runMov (Instr.record s.codeMode {} (.movCrR32 x c r)) s

/-- `MOV r32, DRn` (R171). -/
def execMovR32Dr (x : BitVec 2) (r : Gpr) (n : Fin 8) (s : State) : Host.Outcome State Fault Refusal :=
  runMov (Instr.record s.codeMode {} (.movR32Dr x r n)) s

/-- `MOV DRn, r32` (R172). -/
def execMovDrR32 (x : BitVec 2) (n : Fin 8) (r : Gpr) (s : State) : Host.Outcome State Fault Refusal :=
  runMov (Instr.record s.codeMode {} (.movDrR32 x n r)) s

/-- `MOV r32, TRn` (R173). -/
def execMovR32Tr (x : BitVec 2) (r : Gpr) (n : Fin 8) (s : State) : Host.Outcome State Fault Refusal :=
  runMov (Instr.record s.codeMode {} (.movR32Tr x r n)) s

/-- `MOV TRn, r32` (R174). -/
def execMovTrR32 (x : BitVec 2) (n : Fin 8) (r : Gpr) (s : State) : Host.Outcome State Fault Refusal :=
  runMov (Instr.record s.codeMode {} (.movTrR32 x n r)) s

end Sys2Proof.Machine
end

