-- ==== Sys2Proof/Machine/Shift.lean ====
section
/-! DEFINITION. SHL and SHR (44_shift.md R205 to R213). -/

namespace Sys2Proof.Machine

/-- The shift step (R211, R212): destination and count are read; a masked count of zero changes nothing (R206), not even
where the destination could not be stored to (log 12). Of a count longer than a byte the low one counts (log 11). -/
def shiftStep (f : (w : Nat) → BitVec w → Nat → Word → BitVec w × Word) (r : Record) (s : State) : Except Fault State := do
  let a ← s.evaluate r.seg (r.operand 0) r.osz.bytes
  let cnt ← s.evaluate r.seg (r.operand 1) 1
  let c := shiftCount (valueOf 8 cnt)
  if c = 0 then return s
  else
    let x := f r.osz.bits (valueOf r.osz.bits a) c s.eflags
    let t ← s.store r.seg (r.operand 0) (bytesOf r.osz.bytes x.1.toNat)
    return { t with eflags := x.2 }

/-- The record class SHL (R211). -/
def runShl (r : Record) (s : State) : Host.Outcome State Fault Refusal :=
  complete r.len (shiftStep (fun _ a c e => shlOp a c e) r s)

/-- The record class SHR (R212). -/
def runShr (r : Record) (s : State) : Host.Outcome State Fault Refusal :=
  complete r.len (shiftStep (fun _ a c e => shrOp a c e) r s)

/-- `SHL r/m8, imm8` (R211). -/
def execShlRm8Imm8 (rm : Rm8) (v : Byte) (s : State) : Host.Outcome State Fault Refusal :=
  runShl (Instr.record s.codeMode {} (.shlRm8Imm8 rm v)) s

/-- `SHL r/m16/32, imm8` (R211). -/
def execShlRmvImm8 (rm : Rmv) (v : Byte) (s : State) : Host.Outcome State Fault Refusal :=
  runShl (Instr.record s.codeMode {} (.shlRmvImm8 rm v)) s

/-- `SHL r/m8, 1` (R211). -/
def execShlRm8One (rm : Rm8) (s : State) : Host.Outcome State Fault Refusal :=
  runShl (Instr.record s.codeMode {} (.shlRm8One rm)) s

/-- `SHL r/m16/32, 1` (R211). -/
def execShlRmvOne (rm : Rmv) (s : State) : Host.Outcome State Fault Refusal :=
  runShl (Instr.record s.codeMode {} (.shlRmvOne rm)) s

/-- `SHL r/m8, CL` (R211). -/
def execShlRm8Cl (rm : Rm8) (s : State) : Host.Outcome State Fault Refusal :=
  runShl (Instr.record s.codeMode {} (.shlRm8Cl rm)) s

/-- `SHL r/m16/32, CL` (R211). -/
def execShlRmvCl (rm : Rmv) (s : State) : Host.Outcome State Fault Refusal :=
  runShl (Instr.record s.codeMode {} (.shlRmvCl rm)) s

/-- `SHR r/m8, imm8` (R212). -/
def execShrRm8Imm8 (rm : Rm8) (v : Byte) (s : State) : Host.Outcome State Fault Refusal :=
  runShr (Instr.record s.codeMode {} (.shrRm8Imm8 rm v)) s

/-- `SHR r/m16/32, imm8` (R212). -/
def execShrRmvImm8 (rm : Rmv) (v : Byte) (s : State) : Host.Outcome State Fault Refusal :=
  runShr (Instr.record s.codeMode {} (.shrRmvImm8 rm v)) s

/-- `SHR r/m8, 1` (R212). -/
def execShrRm8One (rm : Rm8) (s : State) : Host.Outcome State Fault Refusal :=
  runShr (Instr.record s.codeMode {} (.shrRm8One rm)) s

/-- `SHR r/m16/32, 1` (R212). -/
def execShrRmvOne (rm : Rmv) (s : State) : Host.Outcome State Fault Refusal :=
  runShr (Instr.record s.codeMode {} (.shrRmvOne rm)) s

/-- `SHR r/m8, CL` (R212). -/
def execShrRm8Cl (rm : Rm8) (s : State) : Host.Outcome State Fault Refusal :=
  runShr (Instr.record s.codeMode {} (.shrRm8Cl rm)) s

/-- `SHR r/m16/32, CL` (R212). -/
def execShrRmvCl (rm : Rmv) (s : State) : Host.Outcome State Fault Refusal :=
  runShr (Instr.record s.codeMode {} (.shrRmvCl rm)) s

end Sys2Proof.Machine
end

