-- ==== Sys2Proof/Machine/Stack.lean ====
section
/-! DEFINITION. PUSH and POP (45_stack.md R220 to R226). -/

namespace Sys2Proof.Machine

/-- `v = Evaluate(src, n); Push(n, v)` (R220 to R223): the source is read before the pointer moves. -/
def pushStep (r : Record) (s : State) : Except Fault State := do
  let v ← s.evaluate r.seg (r.operand 0) r.osz.bytes
  return s.push r.osz.bytes v

/-- `v = Pop(n); Store(d, v)` (R224 to R226): the destination is addressed and written after the pointer moves; a
segment register is loaded by the resolver, whose failure undoes the pointer too (R225, R237). -/
def popStep (r : Record) (s : State) : Except Fault State :=
  (s.pop r.osz.bytes).2.store r.seg (r.operand 0) (s.pop r.osz.bytes).1

/-- The record class PUSH. -/
def runPush (r : Record) (s : State) : Host.Outcome State Fault Refusal := complete r.len (pushStep r s)

/-- The record class POP. -/
def runPop (r : Record) (s : State) : Host.Outcome State Fault Refusal := complete r.len (popStep r s)

/-- `PUSH r16/32` (R220). -/
def execPushRv (r : Gpr) (s : State) : Host.Outcome State Fault Refusal :=
  runPush (Instr.record s.codeMode {} (.pushRv r)) s

/-- `PUSH r/m16/32` (R221). -/
def execPushRmv (rm : Rmv) (s : State) : Host.Outcome State Fault Refusal :=
  runPush (Instr.record s.codeMode {} (.pushRmv rm)) s

/-- `PUSH imm16/32` (R222). -/
def execPushImm (v : Iz) (s : State) : Host.Outcome State Fault Refusal :=
  runPush (Instr.record s.codeMode {} (.pushImm v)) s

/-- `PUSH imm8 (sign-extended)` (R222). -/
def execPushImm8 (v : Byte) (s : State) : Host.Outcome State Fault Refusal :=
  runPush (Instr.record s.codeMode {} (.pushImm8 v)) s

/-- `PUSH ES` (R223). -/
def execPushEs (s : State) : Host.Outcome State Fault Refusal :=
  runPush (Instr.record s.codeMode {} .pushEs) s

/-- `PUSH CS` (R223). -/
def execPushCs (s : State) : Host.Outcome State Fault Refusal :=
  runPush (Instr.record s.codeMode {} .pushCs) s

/-- `PUSH SS` (R223). -/
def execPushSs (s : State) : Host.Outcome State Fault Refusal :=
  runPush (Instr.record s.codeMode {} .pushSs) s

/-- `PUSH DS` (R223). -/
def execPushDs (s : State) : Host.Outcome State Fault Refusal :=
  runPush (Instr.record s.codeMode {} .pushDs) s

/-- `PUSH FS` (R223). -/
def execPushFs (s : State) : Host.Outcome State Fault Refusal :=
  runPush (Instr.record s.codeMode {} .pushFs) s

/-- `PUSH GS` (R223). -/
def execPushGs (s : State) : Host.Outcome State Fault Refusal :=
  runPush (Instr.record s.codeMode {} .pushGs) s

/-- `POP r16/32` (R224). -/
def execPopRv (r : Gpr) (s : State) : Host.Outcome State Fault Refusal :=
  runPop (Instr.record s.codeMode {} (.popRv r)) s

/-- `POP r/m16/32` (R226). -/
def execPopRmv (rm : Rmv) (s : State) : Host.Outcome State Fault Refusal :=
  runPop (Instr.record s.codeMode {} (.popRmv rm)) s

/-- `POP ES` (R225). -/
def execPopEs (s : State) : Host.Outcome State Fault Refusal :=
  runPop (Instr.record s.codeMode {} .popEs) s

/-- `POP SS` (R225). -/
def execPopSs (s : State) : Host.Outcome State Fault Refusal :=
  runPop (Instr.record s.codeMode {} .popSs) s

/-- `POP DS` (R225). -/
def execPopDs (s : State) : Host.Outcome State Fault Refusal :=
  runPop (Instr.record s.codeMode {} .popDs) s

/-- `POP FS` (R225). -/
def execPopFs (s : State) : Host.Outcome State Fault Refusal :=
  runPop (Instr.record s.codeMode {} .popFs) s

/-- `POP GS` (R225). -/
def execPopGs (s : State) : Host.Outcome State Fault Refusal :=
  runPop (Instr.record s.codeMode {} .popGs) s

end Sys2Proof.Machine
end

