-- ==== Sys2Proof/Machine/Tables.lean ====
section
/-! DEFINITION. LGDT and LIDT (41_segmentation.md R149 to R151). -/

namespace Sys2Proof.Machine

/-- `LoadDescriptorTableRegister(img, osz)` (R149): with a 16-bit operand the base is 24 bits. Width 8, which R150 and R151
do not admit, falls under the "otherwise" of R149 (log 22). -/
def tableFromImage (img : OperandValue) (osz : Width) : TableReg :=
  let d : BitVec 48 := valueOf 48 img
  match osz with
  | .w32 => ⟨d.extractLsb' 16 32, d.extractLsb' 0 16⟩
  | .w8 | .w16 => ⟨(d.extractLsb' 16 24).setWidth 32, d.extractLsb' 0 16⟩

/-- The 6-byte image of a Mem operand; any other operand is invalid (R150, R151, R239). -/
def tableImage (r : Record) (s : State) : Except Fault TableReg :=
  match r.operand 0 with
  | .mem base index scale disp asz => do
    let img ← s.evaluate r.seg (.mem base index scale disp asz) 6
    return tableFromImage img r.osz
  | op => .error (.invalidOperand .notMemory op)

/-- LGDT (R150). -/
def lgdtStep (r : Record) (s : State) : Except Fault State := do
  let t ← tableImage r s
  return { s with gdtr := t }

/-- LIDT (R151). -/
def lidtStep (r : Record) (s : State) : Except Fault State := do
  let t ← tableImage r s
  return { s with idtr := t }

/-- The record class LGDT. -/
def runLgdt (r : Record) (s : State) : Host.Outcome State Fault Refusal := complete r.len (lgdtStep r s)

/-- The record class LIDT. -/
def runLidt (r : Record) (s : State) : Host.Outcome State Fault Refusal := complete r.len (lidtStep r s)

/-- `LGDT m16&32` (R150). -/
def execLgdt (f : MemForm) (s : State) : Host.Outcome State Fault Refusal :=
  runLgdt (Instr.record s.codeMode {} (.lgdt f)) s

/-- `LIDT m16&32` (R151). -/
def execLidt (f : MemForm) (s : State) : Host.Outcome State Fault Refusal :=
  runLidt (Instr.record s.codeMode {} (.lidt f)) s

end Sys2Proof.Machine
end

