-- ==== Sys2Proof/Machine/Engine.lean ====
section
/-! DEFINITION. The engine over the decoded record (30_encoding.md R100), and the prefix rows (R103): an instruction with a prefix is the record its bytes decode to, prefix effects included. -/

namespace Sys2Proof.Machine

/-- One engine step of a decoded record, by opcode class (00_scope.md R3, R7). A REP or REPNE prefix has no effect here
(46_repeat.md R234), nor has LOCK (20_memory.md R78). -/
def runRecord (r : Record) (s : State) : Host.Outcome State Fault Refusal :=
  match r.op with
  | .mov => runMov r s
  | .add => runAdd r s
  | .or => runOr r s
  | .adc => runAdc r s
  | .sbb => runSbb r s
  | .and => runAnd r s
  | .sub => runSub r s
  | .xor => runXor r s
  | .inc => runInc r s
  | .dec => runDec r s
  | .shl => runShl r s
  | .shr => runShr r s
  | .push => runPush r s
  | .pop => runPop r s
  | .lgdt => runLgdt r s
  | .lidt => runLidt r s

/-- `ES:` before the instruction `i` (R103). -/
def execSegEs (i : Instr) (s : State) : Host.Outcome State Fault Refusal :=
  runRecord (Instr.record s.codeMode {} (.segEs i)) s

/-- `CS:` before the instruction `i` (R103). -/
def execSegCs (i : Instr) (s : State) : Host.Outcome State Fault Refusal :=
  runRecord (Instr.record s.codeMode {} (.segCs i)) s

/-- `SS:` before the instruction `i` (R103). -/
def execSegSs (i : Instr) (s : State) : Host.Outcome State Fault Refusal :=
  runRecord (Instr.record s.codeMode {} (.segSs i)) s

/-- `DS:` before the instruction `i` (R103). -/
def execSegDs (i : Instr) (s : State) : Host.Outcome State Fault Refusal :=
  runRecord (Instr.record s.codeMode {} (.segDs i)) s

/-- `FS:` before the instruction `i` (R103). -/
def execSegFs (i : Instr) (s : State) : Host.Outcome State Fault Refusal :=
  runRecord (Instr.record s.codeMode {} (.segFs i)) s

/-- `GS:` before the instruction `i` (R103). -/
def execSegGs (i : Instr) (s : State) : Host.Outcome State Fault Refusal :=
  runRecord (Instr.record s.codeMode {} (.segGs i)) s

/-- `OPSIZE` before the instruction `i` (R103). -/
def execOpsize (i : Instr) (s : State) : Host.Outcome State Fault Refusal :=
  runRecord (Instr.record s.codeMode {} (.opsize i)) s

/-- `ADSIZE` before the instruction `i` (R103). -/
def execAdsize (i : Instr) (s : State) : Host.Outcome State Fault Refusal :=
  runRecord (Instr.record s.codeMode {} (.adsize i)) s

/-- `LOCK` before the instruction `i` (R103). -/
def execLock (i : Instr) (s : State) : Host.Outcome State Fault Refusal :=
  runRecord (Instr.record s.codeMode {} (.lock i)) s

/-- `REPNE` before the instruction `i` (R103). -/
def execRepne (i : Instr) (s : State) : Host.Outcome State Fault Refusal :=
  runRecord (Instr.record s.codeMode {} (.repne i)) s

/-- `REP` before the instruction `i` (R103). -/
def execRep (i : Instr) (s : State) : Host.Outcome State Fault Refusal :=
  runRecord (Instr.record s.codeMode {} (.rep i)) s

end Sys2Proof.Machine
end

