-- ==== Sys2Proof/Machine/Dispatch.lean ====
section
/-! DEFINITION. One arm per row of the opcode table. -/

namespace Sys2Proof.Machine

def exec (i : Instr) (s : State) : Host.Outcome State Fault Refusal :=
  match i with
  | .segEs j => Sys2Proof.Machine.execSegEs j s
  | .segCs j => Sys2Proof.Machine.execSegCs j s
  | .segSs j => Sys2Proof.Machine.execSegSs j s
  | .segDs j => Sys2Proof.Machine.execSegDs j s
  | .segFs j => Sys2Proof.Machine.execSegFs j s
  | .segGs j => Sys2Proof.Machine.execSegGs j s
  | .opsize j => Sys2Proof.Machine.execOpsize j s
  | .adsize j => Sys2Proof.Machine.execAdsize j s
  | .lock j => Sys2Proof.Machine.execLock j s
  | .repne j => Sys2Proof.Machine.execRepne j s
  | .rep j => Sys2Proof.Machine.execRep j s
  | .movRm8R8 rm r => Sys2Proof.Machine.execMovRm8R8 rm r s
  | .movRmvRv rm r => Sys2Proof.Machine.execMovRmvRv rm r s
  | .movR8Rm8 r rm => Sys2Proof.Machine.execMovR8Rm8 r rm s
  | .movRvRmv r rm => Sys2Proof.Machine.execMovRvRmv r rm s
  | .movRm16Sreg rm sr => Sys2Proof.Machine.execMovRm16Sreg rm sr s
  | .movSregRm16 sr rm => Sys2Proof.Machine.execMovSregRm16 sr rm s
  | .movAlMoffs a => Sys2Proof.Machine.execMovAlMoffs a s
  | .movEaxMoffs a => Sys2Proof.Machine.execMovEaxMoffs a s
  | .movMoffsAl a => Sys2Proof.Machine.execMovMoffsAl a s
  | .movMoffsEax a => Sys2Proof.Machine.execMovMoffsEax a s
  | .movR8Imm8 r v => Sys2Proof.Machine.execMovR8Imm8 r v s
  | .movRvImm r v => Sys2Proof.Machine.execMovRvImm r v s
  | .movRm8Imm8 rm v => Sys2Proof.Machine.execMovRm8Imm8 rm v s
  | .movRmvImm rm v => Sys2Proof.Machine.execMovRmvImm rm v s
  | .movR32Cr x r c => Sys2Proof.Machine.execMovR32Cr x r c s
  | .movCrR32 x c r => Sys2Proof.Machine.execMovCrR32 x c r s
  | .movR32Dr x r n => Sys2Proof.Machine.execMovR32Dr x r n s
  | .movDrR32 x n r => Sys2Proof.Machine.execMovDrR32 x n r s
  | .movR32Tr x r n => Sys2Proof.Machine.execMovR32Tr x r n s
  | .movTrR32 x n r => Sys2Proof.Machine.execMovTrR32 x n r s
  | .addRm8R8 rm r => Sys2Proof.Machine.execAddRm8R8 rm r s
  | .addRmvRv rm r => Sys2Proof.Machine.execAddRmvRv rm r s
  | .addR8Rm8 r rm => Sys2Proof.Machine.execAddR8Rm8 r rm s
  | .addRvRmv r rm => Sys2Proof.Machine.execAddRvRmv r rm s
  | .addAlImm8 v => Sys2Proof.Machine.execAddAlImm8 v s
  | .addEaxImm v => Sys2Proof.Machine.execAddEaxImm v s
  | .addRm8Imm8 rm v => Sys2Proof.Machine.execAddRm8Imm8 rm v s
  | .addRmvImm rm v => Sys2Proof.Machine.execAddRmvImm rm v s
  | .addRm8Imm8Alias rm v => Sys2Proof.Machine.execAddRm8Imm8Alias rm v s
  | .addRmvImm8 rm v => Sys2Proof.Machine.execAddRmvImm8 rm v s
  | .orRm8R8 rm r => Sys2Proof.Machine.execOrRm8R8 rm r s
  | .orRmvRv rm r => Sys2Proof.Machine.execOrRmvRv rm r s
  | .orR8Rm8 r rm => Sys2Proof.Machine.execOrR8Rm8 r rm s
  | .orRvRmv r rm => Sys2Proof.Machine.execOrRvRmv r rm s
  | .orAlImm8 v => Sys2Proof.Machine.execOrAlImm8 v s
  | .orEaxImm v => Sys2Proof.Machine.execOrEaxImm v s
  | .orRm8Imm8 rm v => Sys2Proof.Machine.execOrRm8Imm8 rm v s
  | .orRmvImm rm v => Sys2Proof.Machine.execOrRmvImm rm v s
  | .orRm8Imm8Alias rm v => Sys2Proof.Machine.execOrRm8Imm8Alias rm v s
  | .orRmvImm8 rm v => Sys2Proof.Machine.execOrRmvImm8 rm v s
  | .adcRm8R8 rm r => Sys2Proof.Machine.execAdcRm8R8 rm r s
  | .adcRmvRv rm r => Sys2Proof.Machine.execAdcRmvRv rm r s
  | .adcR8Rm8 r rm => Sys2Proof.Machine.execAdcR8Rm8 r rm s
  | .adcRvRmv r rm => Sys2Proof.Machine.execAdcRvRmv r rm s
  | .adcAlImm8 v => Sys2Proof.Machine.execAdcAlImm8 v s
  | .adcEaxImm v => Sys2Proof.Machine.execAdcEaxImm v s
  | .adcRm8Imm8 rm v => Sys2Proof.Machine.execAdcRm8Imm8 rm v s
  | .adcRmvImm rm v => Sys2Proof.Machine.execAdcRmvImm rm v s
  | .adcRm8Imm8Alias rm v => Sys2Proof.Machine.execAdcRm8Imm8Alias rm v s
  | .adcRmvImm8 rm v => Sys2Proof.Machine.execAdcRmvImm8 rm v s
  | .sbbRm8R8 rm r => Sys2Proof.Machine.execSbbRm8R8 rm r s
  | .sbbRmvRv rm r => Sys2Proof.Machine.execSbbRmvRv rm r s
  | .sbbR8Rm8 r rm => Sys2Proof.Machine.execSbbR8Rm8 r rm s
  | .sbbRvRmv r rm => Sys2Proof.Machine.execSbbRvRmv r rm s
  | .sbbAlImm8 v => Sys2Proof.Machine.execSbbAlImm8 v s
  | .sbbEaxImm v => Sys2Proof.Machine.execSbbEaxImm v s
  | .sbbRm8Imm8 rm v => Sys2Proof.Machine.execSbbRm8Imm8 rm v s
  | .sbbRmvImm rm v => Sys2Proof.Machine.execSbbRmvImm rm v s
  | .sbbRm8Imm8Alias rm v => Sys2Proof.Machine.execSbbRm8Imm8Alias rm v s
  | .sbbRmvImm8 rm v => Sys2Proof.Machine.execSbbRmvImm8 rm v s
  | .andRm8R8 rm r => Sys2Proof.Machine.execAndRm8R8 rm r s
  | .andRmvRv rm r => Sys2Proof.Machine.execAndRmvRv rm r s
  | .andR8Rm8 r rm => Sys2Proof.Machine.execAndR8Rm8 r rm s
  | .andRvRmv r rm => Sys2Proof.Machine.execAndRvRmv r rm s
  | .andAlImm8 v => Sys2Proof.Machine.execAndAlImm8 v s
  | .andEaxImm v => Sys2Proof.Machine.execAndEaxImm v s
  | .andRm8Imm8 rm v => Sys2Proof.Machine.execAndRm8Imm8 rm v s
  | .andRmvImm rm v => Sys2Proof.Machine.execAndRmvImm rm v s
  | .andRm8Imm8Alias rm v => Sys2Proof.Machine.execAndRm8Imm8Alias rm v s
  | .andRmvImm8 rm v => Sys2Proof.Machine.execAndRmvImm8 rm v s
  | .subRm8R8 rm r => Sys2Proof.Machine.execSubRm8R8 rm r s
  | .subRmvRv rm r => Sys2Proof.Machine.execSubRmvRv rm r s
  | .subR8Rm8 r rm => Sys2Proof.Machine.execSubR8Rm8 r rm s
  | .subRvRmv r rm => Sys2Proof.Machine.execSubRvRmv r rm s
  | .subAlImm8 v => Sys2Proof.Machine.execSubAlImm8 v s
  | .subEaxImm v => Sys2Proof.Machine.execSubEaxImm v s
  | .subRm8Imm8 rm v => Sys2Proof.Machine.execSubRm8Imm8 rm v s
  | .subRmvImm rm v => Sys2Proof.Machine.execSubRmvImm rm v s
  | .subRm8Imm8Alias rm v => Sys2Proof.Machine.execSubRm8Imm8Alias rm v s
  | .subRmvImm8 rm v => Sys2Proof.Machine.execSubRmvImm8 rm v s
  | .xorRm8R8 rm r => Sys2Proof.Machine.execXorRm8R8 rm r s
  | .xorRmvRv rm r => Sys2Proof.Machine.execXorRmvRv rm r s
  | .xorR8Rm8 r rm => Sys2Proof.Machine.execXorR8Rm8 r rm s
  | .xorRvRmv r rm => Sys2Proof.Machine.execXorRvRmv r rm s
  | .xorAlImm8 v => Sys2Proof.Machine.execXorAlImm8 v s
  | .xorEaxImm v => Sys2Proof.Machine.execXorEaxImm v s
  | .xorRm8Imm8 rm v => Sys2Proof.Machine.execXorRm8Imm8 rm v s
  | .xorRmvImm rm v => Sys2Proof.Machine.execXorRmvImm rm v s
  | .xorRm8Imm8Alias rm v => Sys2Proof.Machine.execXorRm8Imm8Alias rm v s
  | .xorRmvImm8 rm v => Sys2Proof.Machine.execXorRmvImm8 rm v s
  | .incRv r => Sys2Proof.Machine.execIncRv r s
  | .incRm8 rm => Sys2Proof.Machine.execIncRm8 rm s
  | .incRmv rm => Sys2Proof.Machine.execIncRmv rm s
  | .decRv r => Sys2Proof.Machine.execDecRv r s
  | .decRm8 rm => Sys2Proof.Machine.execDecRm8 rm s
  | .decRmv rm => Sys2Proof.Machine.execDecRmv rm s
  | .shlRm8Imm8 rm v => Sys2Proof.Machine.execShlRm8Imm8 rm v s
  | .shlRmvImm8 rm v => Sys2Proof.Machine.execShlRmvImm8 rm v s
  | .shlRm8One rm => Sys2Proof.Machine.execShlRm8One rm s
  | .shlRmvOne rm => Sys2Proof.Machine.execShlRmvOne rm s
  | .shlRm8Cl rm => Sys2Proof.Machine.execShlRm8Cl rm s
  | .shlRmvCl rm => Sys2Proof.Machine.execShlRmvCl rm s
  | .shrRm8Imm8 rm v => Sys2Proof.Machine.execShrRm8Imm8 rm v s
  | .shrRmvImm8 rm v => Sys2Proof.Machine.execShrRmvImm8 rm v s
  | .shrRm8One rm => Sys2Proof.Machine.execShrRm8One rm s
  | .shrRmvOne rm => Sys2Proof.Machine.execShrRmvOne rm s
  | .shrRm8Cl rm => Sys2Proof.Machine.execShrRm8Cl rm s
  | .shrRmvCl rm => Sys2Proof.Machine.execShrRmvCl rm s
  | .pushRv r => Sys2Proof.Machine.execPushRv r s
  | .pushRmv rm => Sys2Proof.Machine.execPushRmv rm s
  | .pushImm v => Sys2Proof.Machine.execPushImm v s
  | .pushImm8 v => Sys2Proof.Machine.execPushImm8 v s
  | .pushEs => Sys2Proof.Machine.execPushEs s
  | .pushCs => Sys2Proof.Machine.execPushCs s
  | .pushSs => Sys2Proof.Machine.execPushSs s
  | .pushDs => Sys2Proof.Machine.execPushDs s
  | .pushFs => Sys2Proof.Machine.execPushFs s
  | .pushGs => Sys2Proof.Machine.execPushGs s
  | .popRv r => Sys2Proof.Machine.execPopRv r s
  | .popRmv rm => Sys2Proof.Machine.execPopRmv rm s
  | .popEs => Sys2Proof.Machine.execPopEs s
  | .popSs => Sys2Proof.Machine.execPopSs s
  | .popDs => Sys2Proof.Machine.execPopDs s
  | .popFs => Sys2Proof.Machine.execPopFs s
  | .popGs => Sys2Proof.Machine.execPopGs s
  | .lgdt f => Sys2Proof.Machine.execLgdt f s
  | .lidt f => Sys2Proof.Machine.execLidt f s

end Sys2Proof.Machine
end

