-- ==== Sys2Proof/Machine/Step.lean ====
section
/-! DEFINITION. One step of the machine: the boundary before an instruction, then fetch, decode and execute (00_scope.md R3, 20_memory.md R73, 60_exceptions.md R245). -/

namespace Sys2Proof.Machine

/-- The bytes the decoder is given: from CS.base + EIP on (R73), as many as an instruction can have (R102). -/
def State.fetch (s : State) : List Byte := s.mem.readFrom s.codeAddress Config.maxLength

/-- The driver runs the instruction at CS:EIP; while `halt` is set it executes none (10_state.md R50; log 7). -/
def State.runInstruction (s : State) : Host.Outcome State Fault Refusal :=
  if s.halt then .next s
  else match decode s.codeMode s.fetch with
    | .ok i => exec i s
    | .error e => .refused (.undecodable e)

/-- One step with the platform's request at the boundary before the instruction (R244, R245; logs 5 and 6). DESIGN CHOICE:
the first step after reset has such a boundary too (log 25), and a boundary delivers at most one request (log 26). -/
def State.stepWith (s : State) (req : Option Request) : Host.Outcome State Fault Refusal :=
  match s.driverBoundary req with
  | .next t => t.runInstruction
  | o => o

/-- One step, no interrupt being requested (log 6): the boundary consumes the SS shadow, then the instruction runs. -/
def step (s : State) : Host.Outcome State Fault Refusal := s.boundary.runInstruction

/-- The state with that instruction at CS:EIP, and not halted, so that the next step runs it (log 8). -/
def State.withFetchWord (s : State) (nbits w : Nat) : State :=
  { s with mem := s.mem.writeFrom s.codeAddress (tableWordBytes nbits w), halt := false }

end Sys2Proof.Machine
end

