-- ==== Sys2Proof/Machine/Repeat.lean ====
section
/-! DEFINITION. The repeat-prefix controller and the step of a repeated string instruction (46_repeat.md R230 to R234). -/

namespace Sys2Proof.Machine

/-- What `REPCheck` returns: the state with the counter written back, whether to go on, and the cycle cost if it
overrides the caller's timing (R230, R233). -/
structure RepResult where
  state : State
  goOn : Bool
  cycles : Option Nat
  deriving DecidableEq, Repr

/-- The counted-loop register by address size: CX or ECX (R230, R231). -/
def State.repCount (s : State) : Size → Nat
  | .s16 => (s.gpr.get16 .ecx).toNat
  | .s32 => (s.gpr.get .ecx).toNat

/-- The counter written back through its view; CX leaves ECX[31:16] (R231). -/
def State.setRepCount (s : State) (asz : Size) (n : Nat) : State :=
  match asz with
  | .s16 => { s with gpr := s.gpr.set16 .ecx (BitVec.ofNat 16 n) }
  | .s32 => { s with gpr := s.gpr.set .ecx (BitVec.ofNat 32 n) }

/-- `REPCheck(prefixKind, asz)` (R230). No flag is read or written. -/
def repCheck (kind : Rep) (asz : Size) (s : State) : RepResult :=
  match kind with
  | .absent => ⟨s, true, none⟩
  | .rep | .repne =>
    if s.repCount asz = 0 then ⟨s, false, some 5⟩
    else ⟨s.setRepCount asz (s.repCount asz - 1), true, some 7⟩

/-- The step of a repeated string instruction (R232), one iteration a step: `body` is the parameter `STRING_BODY`, which
answers the new state and whether a REPE or REPNE condition ended the loop (log 17). Answers the new state and the cycle
cost reported to the driver. -/
def stringStep (body : State → State × Bool) (r : Record) (s : State) : State × Option Nat :=
  let k := repCheck r.rep r.asz s
  if k.goOn then
    let b := body k.state
    if r.rep = .absent ∨ b.2 then (b.1.advance r.len, k.cycles) else (b.1, k.cycles)
  else (k.state.advance r.len, k.cycles)

end Sys2Proof.Machine
end

