-- ==== Sys2Proof/Machine/Text.lean ====
section
/-! DEFINITION. The host's text interfaces: register names (10_state.md R27), the state dump (R54 to R56), the disassembly line (30_encoding.md R123, R124). -/

namespace Sys2Proof.Machine

/-- The register-name table (R25, R27), id by id. -/
def registerNames : List String :=
  ["(none)", "AL", "CL", "DL", "BL", "AH", "CH", "DH", "BH", "AX", "CX", "DX", "BX", "SP", "BP", "SI", "DI"] ++
  ["EAX", "ECX", "EDX", "EBX", "ESP", "EBP", "ESI", "EDI", "EIP", "EFLAGS", "ES", "CS", "SS", "DS", "FS", "GS"] ++
  ["GDT", "LDT", "TR0", "TR1", "TR2", "TR3", "TR4", "TR5", "TR6", "TR7", "IDTR", "CR0", "CR1", "CR2", "CR3"] ++
  ["DR0", "DR1", "DR2", "DR3", "DR4", "DR5", "DR6", "DR7"]

/-- The name of an id of the table. -/
def registerName? (id : Nat) : Option String := registerNames[id]?

/-- The id of a name of the table (R27: "and back"). -/
def registerId? (name : String) : Option Nat := registerNames.idxOf? name

def hexDigit (fmt : DumpFormat) (n : Nat) : Char :=
  if n < 10 then Char.ofNat (48 + n) else if fmt.upperCase then Char.ofNat (55 + n) else Char.ofNat (87 + n)

/-- The low `digits` hexadecimal digits of a number. -/
def hexChars (fmt : DumpFormat) : Nat → Nat → List Char
  | 0, _ => []
  | d + 1, v => hexChars fmt d (v / 16) ++ [hexDigit fmt (v % 16)]

def hexText (fmt : DumpFormat) (digits v : Nat) : String := String.ofList (hexChars fmt digits v)

/-- A value of the dump. -/
def dumpHex (fmt : DumpFormat) (digits v : Nat) : String := fmt.hexPrefix ++ hexText fmt digits v

/-- A register of lines 2 to 4: its name and its value. -/
def dumpItem (fmt : DumpFormat) (name : String) (v : Word) : String :=
  name ++ fmt.assign ++ dumpHex fmt fmt.wordDigits v.toNat

/-- One of the lines 2 to 4. -/
def dumpRegisters (fmt : DumpFormat) (names : List String) (values : List Word) : String :=
  fmt.itemSeparator.intercalate (List.zipWith (dumpItem fmt) names values)

/-- The flag mnemonics (R32, R54). -/
def flagMnemonic : DumpFlag → String
  | .cf => "CF" | .pf => "PF" | .af => "AF" | .zf => "ZF" | .sf => "SF" | .tf => "TF" | .fIf => "IF" | .df => "DF"
  | .of => "OF" | .iopl => "IOPL" | .nt => "NT" | .rf => "RF" | .vm => "VM" | .ac => "AC"

/-- The flag's bit, or the number IOPL is (R54: "a 1-digit value"). -/
def flagValue (e : Word) : DumpFlag → Nat
  | .cf => (getFlag e .cf).toNat
  | .pf => (getFlag e .pf).toNat
  | .af => (getFlag e .af).toNat
  | .zf => (getFlag e .zf).toNat
  | .sf => (getFlag e .sf).toNat
  | .tf => (getFlag e .tf).toNat
  | .fIf => (getFlag e .fIf).toNat
  | .df => (getFlag e .df).toNat
  | .of => (getFlag e .of).toNat
  | .iopl => (getIopl e).toNat
  | .nt => (getFlag e .nt).toNat
  | .rf => (getFlag e .rf).toNat
  | .vm => (getFlag e .vm).toNat
  | .ac => (getFlag e .ac).toNat

/-- A flag mnemonic followed by its value. -/
def dumpFlag (fmt : DumpFormat) (s : State) (x : DumpFlag) : String :=
  flagMnemonic x ++ fmt.flagAssign ++ hexText fmt 1 (flagValue s.eflags x)

/-- Line 1 (R54, R55). -/
def dumpLine1 (fmt : DumpFormat) (s : State) : String :=
  "CS:EIP=" ++ dumpHex fmt fmt.segmentDigits s.seg.cs.selector.toNat ++ ":" ++ dumpHex fmt fmt.wordDigits s.eip.toNat ++
  "  LINEAR:" ++ dumpHex fmt fmt.wordDigits s.codeAddress.toNat ++
  "  EFLAGS=" ++ dumpHex fmt fmt.wordDigits s.eflags.toNat

/-- Line 5: all flag mnemonics, each followed by its value. -/
def dumpFlags (fmt : DumpFormat) (s : State) : String := fmt.flagSeparator.intercalate (fmt.flagOrder.map (dumpFlag fmt s))

/-- The optional trailing lines (R54, R56). -/
def dumpTrailing (fmt : DumpFormat) (s : State) : List String :=
  let e := if s.exception then [fmt.exceptionLine] else []
  let h := if s.holdIRQ then [fmt.holdLine] else []
  if fmt.exceptionFirst then e ++ h else h ++ e

/-- The lines of the state dump (R54, R56; log 15). -/
def dumpLines (fmt : DumpFormat) (s : State) : List String :=
  [dumpLine1 fmt s,
   dumpRegisters fmt fmt.line2Names [s.gpr.eax, s.gpr.ebx, s.gpr.ecx, s.gpr.edx],
   dumpRegisters fmt fmt.line3Names [s.gpr.esi, s.gpr.edi, s.gpr.ebp, s.gpr.esp],
   dumpRegisters fmt fmt.line4Names [s.cr.cr0, s.cr.cr1, s.cr.cr2, s.cr.cr3],
   dumpFlags fmt s] ++ dumpTrailing fmt s

/-- The state dump (R54, R56). -/
def dump (fmt : DumpFormat) (s : State) : String := String.join ((dumpLines fmt s).map fun l => l ++ fmt.lineEnd)

/-! Assembly text (R123) and the disassembly line (R124); the spellings the spec leaves open are log 16's. -/

def opName : OpClass → String
  | .mov => "MOV" | .add => "ADD" | .or => "OR" | .adc => "ADC" | .sbb => "SBB" | .and => "AND" | .sub => "SUB"
  | .xor => "XOR" | .inc => "INC" | .dec => "DEC" | .shl => "SHL" | .shr => "SHR" | .push => "PUSH" | .pop => "POP"
  | .lgdt => "LGDT" | .lidt => "LIDT"

/-- A register in assembly text, by its name of R25. An id the table does not name is written as id 0 is, DESIGN CHOICE
(log 16). -/
def registerText (id : Nat) : String := (registerName? id).getD "(none)"

def sizeText : Width → String
  | .w8 => "BYTE PTR "
  | .w16 => "WORD PTR "
  | .w32 => "DWORD PTR "

/-- `[base+index*scale+disp]` without the brackets. -/
def addressText (fmt : DumpFormat) (base index : Option Nat) (scale : Nat) (disp : Word) (asz : Size) : String :=
  let number := match asz with
    | .s16 => "0x" ++ hexText fmt 4 disp.toNat
    | .s32 => "0x" ++ hexText fmt 8 disp.toNat
  let parts := (match base with
      | some id => [registerText id]
      | none => []) ++
    (match index with
      | some id => [if scale = 1 then registerText id else registerText id ++ "*" ++ hexText fmt 1 scale]
      | none => [])
  "+".intercalate (if disp = 0 ∧ parts ≠ [] then parts else parts ++ [number])

/-- An operand, with the width prefix where no register operand implies it (R123). DESIGN CHOICE: a Far operand as
selector and offset, one of undefined kind as (none) (log 16). -/
def operandText (fmt : DumpFormat) (r : Record) (implied : Bool) : Operand → String
  | .reg id => registerText id
  | .mem base index scale disp asz =>
    (if implied then "" else sizeText r.osz) ++
    (match r.seg with
      | some g => registerText g.id ++ ":"
      | none => "") ++
    "[" ++ addressText fmt base index scale disp asz ++ "]"
  | .imm v k => "0x" ++ hexText fmt (2 * k) v.toNat
  | .far sel off k => "0x" ++ hexText fmt 4 sel.toNat ++ ":0x" ++ hexText fmt (2 * k) off.toNat
  | .undefinedKind => "(none)"

/-- A register operand tells the width; a shift count does not (R123). -/
def widthImplied (r : Record) : Bool :=
  match r.op, r.opnd with
  | .lgdt, _ | .lidt, _ => true
  | .shl, d :: _ | .shr, d :: _ => match d with
    | .reg _ => true
    | _ => false
  | _, l => l.any fun o => match o with
    | .reg _ => true
    | _ => false

/-- The mnemonic text of a record in Intel syntax: `MNEMONIC dest, src` (R123). -/
def assemblyText (fmt : DumpFormat) (r : Record) : String :=
  (if r.lock then "LOCK " else "") ++
  (match r.rep with
    | .absent => ""
    | .rep => "REP "
    | .repne => "REPNE ") ++
  opName r.op ++ (if r.opnd = [] then "" else " ") ++
  ", ".intercalate (r.opnd.map (operandText fmt r (widthImplied r)))

/-- Spaces up to a column. -/
def padTo (column : Nat) (t : String) : String := t ++ String.ofList (List.replicate (column - t.length) ' ')

/-- The disassembly line of an instruction at CS:EIP (R124). -/
def disassemblyLine (fmt : DumpFormat) (s : State) (i : Instr) : String :=
  let offset := match s.seg.cs.addressSize with
    | .s16 => hexText fmt fmt.shortOffsetDigits s.eip.toNat
    | .s32 => hexText fmt fmt.longOffsetDigits s.eip.toNat
  let bytes := fmt.byteSeparator.intercalate (i.encode.map fun b => hexText fmt fmt.byteDigits b.toNat)
  padTo fmt.mnemonicColumn (hexText fmt fmt.segmentDigits s.seg.cs.selector.toNat ++ ":" ++ offset ++ " " ++ bytes) ++
    assemblyText fmt (i.record s.codeMode {})

end Sys2Proof.Machine
end

