-- ==== Sys2Proof/Safety.lean ====
section
/-! DEFINITION. What claims are about: the invariant of the machine, and runs that end in no failure (60_exceptions.md R236 to R240). -/

namespace Sys2Proof.Machine

/-- The fixed bits of EFLAGS read as fixed (10_state.md R32, R34). -/
def eflagsFixed (e : Word) : Bool := eflagsWrite e == e

/-- The two sizes of a segment register agree: "No admitted instruction can make them differ" (90_conflicts.md C5). -/
def SegReg.sizesAgree (g : SegReg) : Bool := g.addressSize == g.operandSize

/-- With a 16-bit code segment EIP is a 16-bit offset (10_state.md R31). -/
def State.eipFits (s : State) : Bool :=
  match s.seg.cs.operandSize with
  | .s16 => decide (s.eip.toNat < 2 ^ 16)
  | .s32 => true

/-- The invariant every step keeps: memory canonical, the fixed EFLAGS bits fixed, the sizes of every segment register
equal, EIP inside a 16-bit code segment. -/
def State.inv (s : State) : Bool :=
  s.mem.wf && eflagsFixed s.eflags && s.eipFits &&
  s.seg.es.sizesAgree && s.seg.cs.sizesAgree && s.seg.ss.sizesAgree &&
  s.seg.ds.sizesAgree && s.seg.fs.sizesAgree && s.seg.gs.sizesAgree

/-- `n` steps from `s` all succeed (R236): neither an engine failure nor a refusal ends the run. -/
def safeFor (n : Nat) (s : State) : Prop := ∃ t, Host.Core.run Sys2Proof.core n s = .next t

/-- The run from `s` ends in an engine failure within `n` steps, which is never cleared by a later step (R240). -/
def failsWithin (n : Nat) (s : State) (e : Fault) : Prop := Host.Core.run Sys2Proof.core n s = .fault e

end Sys2Proof.Machine
end

