-- ==== Sys2Proof/Certificates/Slice0/Obligations.lean ====
section
/-! DEFINITION. The statements for the provers, and before them the notions they are written in: values as unsigned numbers, what an instruction leaves alone, what it delivers. -/

namespace Sys2Proof

/-! What kind of instruction a record is. -/

/-- The record is a MOV or POP whose destination is the segment register x. -/
def Record.loads (r : Record) (x : Sreg) : Prop := (r.op = .mov ∨ r.op = .pop) ∧ r.operand 0 = .reg (27 + x.bits.toNat)

/-- The record's destination is a control, debug or test register. -/
def Record.writesControl (r : Record) : Prop :=
  ∃ id, r.operand 0 = .reg id ∧ ((35 ≤ id ∧ id ≤ 42) ∨ (44 ≤ id ∧ id ≤ 55))

/-- The bytes a MOV moves: the record's width, but 2 for a segment register stored to memory (42_operands_move.md R181). -/
def Record.movedBytes (r : Record) : Nat :=
  match r.operand 0, r.operand 1 with
  | .mem _ _ _ _ _, .reg id => if 27 ≤ id ∧ id ≤ 32 then 2 else r.osz.bytes
  | _, _ => r.osz.bytes

/-! Prefixes (30_encoding.md R103). -/

def Pfx.byte : Pfx → Byte
  | .es => 0x26#8 | .cs => 0x2E#8 | .ss => 0x36#8 | .ds => 0x3E#8 | .fs => 0x64#8 | .gs => 0x65#8
  | .opsize => 0x66#8 | .adsize => 0x67#8 | .lock => 0xF0#8 | .repne => 0xF2#8 | .rep => 0xF3#8

def Pfx.override : Pfx → Option Sreg
  | .es => some .es | .cs => some .cs | .ss => some .ss | .ds => some .ds | .fs => some .fs | .gs => some .gs
  | _ => none

def Pfx.repeats : Pfx → Option Rep
  | .repne => some .repne | .rep => some .rep
  | _ => none

/-- The instruction behind the prefixes, the first of them outermost. -/
def withPrefixes (ps : List Pfx) (i : Instr) : Instr := ps.foldr Pfx.wrap i

/-- An instruction that is no prefix row. -/
def Instr.isPlain : Instr → Bool
  | .segEs _ | .segCs _ | .segSs _ | .segDs _ | .segFs _ | .segGs _ | .opsize _ | .adsize _ | .lock _ | .repne _
  | .rep _ => false
  | _ => true

/-- The width of the record does not follow the operand size: byte forms, MOV to and from control, debug and test
registers (R105). -/
def Record.fixedWidth (r : Record) : Prop :=
  r.osz = .w8 ∨ ∃ id, .reg id ∈ r.opnd ∧ ((35 ≤ id ∧ id ≤ 42) ∨ (44 ≤ id ∧ id ≤ 55))

/-- The operands an opcode class takes (R117). -/
def OpClass.arity : OpClass → Nat
  | .inc | .dec | .push | .pop | .lgdt | .lidt => 1
  | .mov | .add | .or | .adc | .sbb | .and | .sub | .xor | .shl | .shr => 2

def Operand.isMem : Operand → Prop
  | .mem _ _ _ _ _ => True
  | .reg _ | .imm _ _ | .far _ _ _ | .undefinedKind => False

/-- An immediate or far operand, which nothing can be stored to (42_operands_move.md R166). -/
def Operand.isConstant : Operand → Prop
  | .imm _ _ | .far _ _ _ => True
  | .reg _ | .mem _ _ _ _ _ | .undefinedKind => False

/-- What makes the failure `InvalidOperand` of kind k and operand o of a record that has its operands (R239): an operand of
undefined kind; an immediate or far destination; an operand of LGDT or LIDT that is not memory. -/
def Record.invalidAs (r : Record) (k : Machine.Invalid) (o : Operand) : Prop :=
  match k with
  | .undefinedKind => o = .undefinedKind ∧ o ∈ r.opnd
  | .immediateDestination => o.isConstant ∧ r.opnd.head? = some o ∧ r.op ≠ .push
  | .notMemory => ¬ o.isMem ∧ r.opnd.head? = some o ∧ (r.op = .lgdt ∨ r.op = .lidt)

/-- The opcode and ModRM bytes R120 refuses. -/
def refusedEncoding (op : List Byte) (x : Byte) : Bool :=
  let reg : Nat := x.toNat / 8 % 8
  let md : Nat := x.toNat / 64
  match op with
  | [0x8C#8] => decide (6 ≤ reg)
  | [0x8E#8] => decide (reg = 1 ∨ 6 ≤ reg)
  | [0x0F#8, 0x20#8] | [0x0F#8, 0x22#8] => decide (reg = 1 ∨ 4 ≤ reg)
  | [0x0F#8, 0x21#8] | [0x0F#8, 0x23#8] => decide (reg = 4 ∨ reg = 5)
  | [0x0F#8, 0x24#8] | [0x0F#8, 0x26#8] => decide (reg ≤ 2)
  | [0x0F#8, 0x01#8] => decide ((reg = 2 ∨ reg = 3) ∧ md = 3)
  | [0xFE#8] => decide (2 ≤ reg)
  | [0x8F#8] | [0xC6#8] | [0xC7#8] => decide (reg ≠ 0)
  | _ => false

/-! From the bytes of an unprefixed instruction to its record, by the opcode map of R118 and R107 to R117. -/

/-- What an operand of a row is read from. -/
inductive Source where
  /-- The r/m operand, a register of 8 bits, of the operand size, of 16 bits (8E), or memory. -/
  | rm8 | rmv | rm16
  /-- The 32-bit register `rm`, whatever `mod` (rows 0F 20 to 0F 26). -/
  | rm32
  /-- The register the ModRM field `reg` names. -/
  | reg8 | regv | sreg | cr | dr | tr
  /-- The register the low three opcode bits name. -/
  | low8 | lowv
  /-- AL; AL, AX or EAX by the operand size; CL; a segment register by its number. -/
  | al | acc | cl | fixed (n : Nat)
  /-- ib, iz, the implicit count 1, an offset without ModRM. -/
  | ib | iz | one | moffs
  deriving DecidableEq, Repr

/-- The operand size of a row (R105): 8, by CS and 66, or 32 always. -/
inductive RowSize where
  | byte | full | dword
  deriving DecidableEq, Repr

/-- A row of the opcode map: its opcode bytes, whether the low three bits of the last are a register field, its ModRM
digit, and the record it stands for. -/
structure MapRow where
  opcode : List Nat
  plus : Bool
  digit : Option Nat
  op : OpClass
  size : RowSize
  operands : List Source
  deriving DecidableEq, Repr

def row (opcode : List Nat) (op : OpClass) (size : RowSize) (operands : List Source) : MapRow :=
  { opcode, plus := false, digit := none, op, size, operands }

def rowPlus (opcode : Nat) (op : OpClass) (size : RowSize) (operands : List Source) : MapRow :=
  { opcode := [opcode], plus := true, digit := none, op, size, operands }

def rowDigit (opcode : List Nat) (d : Nat) (op : OpClass) (size : RowSize) (operands : List Source) : MapRow :=
  { opcode, plus := false, digit := some d, op, size, operands }

/-- MOV (R118, R152, R169 to R181). -/
def movRows : List MapRow :=
  [row [0x88] .mov .byte [.rm8, .reg8], row [0x89] .mov .full [.rmv, .regv],
   row [0x8A] .mov .byte [.reg8, .rm8], row [0x8B] .mov .full [.regv, .rmv],
   row [0x8C] .mov .full [.rmv, .sreg], row [0x8E] .mov .full [.sreg, .rm16],
   row [0xA0] .mov .byte [.al, .moffs], row [0xA1] .mov .full [.acc, .moffs],
   row [0xA2] .mov .byte [.moffs, .al], row [0xA3] .mov .full [.moffs, .acc],
   rowPlus 0xB0 .mov .byte [.low8, .ib], rowPlus 0xB8 .mov .full [.lowv, .iz],
   rowDigit [0xC6] 0 .mov .byte [.rm8, .ib], rowDigit [0xC7] 0 .mov .full [.rmv, .iz]] ++
  [row [0x0F, 0x20] .mov .dword [.rm32, .cr], row [0x0F, 0x22] .mov .dword [.cr, .rm32],
   row [0x0F, 0x21] .mov .dword [.rm32, .dr], row [0x0F, 0x23] .mov .dword [.dr, .rm32],
   row [0x0F, 0x24] .mov .dword [.rm32, .tr], row [0x0F, 0x26] .mov .dword [.tr, .rm32]]

/-- The two-operand ALU rows of operation `k` (R118, R119). -/
def aluRows (k : Nat) (op : OpClass) : List MapRow :=
  [row [8 * k] op .byte [.rm8, .reg8], row [8 * k + 1] op .full [.rmv, .regv],
   row [8 * k + 2] op .byte [.reg8, .rm8], row [8 * k + 3] op .full [.regv, .rmv],
   row [8 * k + 4] op .byte [.al, .ib], row [8 * k + 5] op .full [.acc, .iz],
   rowDigit [0x80] k op .byte [.rm8, .ib], rowDigit [0x81] k op .full [.rmv, .iz],
   rowDigit [0x82] k op .byte [.rm8, .ib], rowDigit [0x83] k op .full [.rmv, .ib]]

/-- INC and DEC: the +r row and the digit of FE and FF. -/
def incDecRows (plus d : Nat) (op : OpClass) : List MapRow :=
  [rowPlus plus op .full [.lowv], rowDigit [0xFE] d op .byte [.rm8], rowDigit [0xFF] d op .full [.rmv]]

/-- SHL and SHR: the digit of the shift group. -/
def shiftRows (d : Nat) (op : OpClass) : List MapRow :=
  [rowDigit [0xC0] d op .byte [.rm8, .ib], rowDigit [0xC1] d op .full [.rmv, .ib],
   rowDigit [0xD0] d op .byte [.rm8, .one], rowDigit [0xD1] d op .full [.rmv, .one],
   rowDigit [0xD2] d op .byte [.rm8, .cl], rowDigit [0xD3] d op .full [.rmv, .cl]]

/-- PUSH and POP. -/
def stackRows : List MapRow :=
  [rowPlus 0x50 .push .full [.lowv], rowDigit [0xFF] 6 .push .full [.rmv],
   row [0x68] .push .full [.iz], row [0x6A] .push .full [.ib],
   row [0x06] .push .full [.fixed 0], row [0x0E] .push .full [.fixed 1], row [0x16] .push .full [.fixed 2],
   row [0x1E] .push .full [.fixed 3], row [0x0F, 0xA0] .push .full [.fixed 4], row [0x0F, 0xA8] .push .full [.fixed 5]] ++
  [rowPlus 0x58 .pop .full [.lowv], rowDigit [0x8F] 0 .pop .full [.rmv],
   row [0x07] .pop .full [.fixed 0], row [0x17] .pop .full [.fixed 2], row [0x1F] .pop .full [.fixed 3],
   row [0x0F, 0xA1] .pop .full [.fixed 4], row [0x0F, 0xA9] .pop .full [.fixed 5]]

/-- The opcode map of R118, the prefixes apart. -/
def opcodeMap : List MapRow :=
  movRows ++ aluRows 0 .add ++ aluRows 1 .or ++ aluRows 2 .adc ++ aluRows 3 .sbb ++ aluRows 4 .and ++ aluRows 5 .sub ++
  aluRows 6 .xor ++ incDecRows 0x40 0 .inc ++ incDecRows 0x48 1 .dec ++ shiftRows 4 .shl ++ shiftRows 5 .shr ++ stackRows ++
  [rowDigit [0x0F, 0x01] 2 .lgdt .full [.rmv], rowDigit [0x0F, 0x01] 3 .lidt .full [.rmv]]

/-- Byte k of an encoding, as a number. -/
def byteAt (e : List Byte) (k : Nat) : Nat := (e.getD k 0).toNat

/-- The little-endian number in the n bytes from byte k on. -/
def numberFrom (e : List Byte) (k n : Nat) : Nat := ((List.range n).map fun j => byteAt e (k + j) * 256 ^ j).sum

/-- The displacement in the n bytes from byte k on, sign-extended to 32 bits (R112). -/
def displacement (e : List Byte) (k n : Nat) : Word :=
  let v := numberFrom e k n
  BitVec.ofInt 32 (if 256 ^ n ≤ 2 * v then (v : Int) - 256 ^ n else v)

/-- The memory operand of the ModRM at byte k (R109 to R111). -/
def memoryAt (z : Size) (e : List Byte) (k : Nat) : Operand :=
  let md := byteAt e k / 64
  let rm := byteAt e k % 8
  match z with
  | .s16 =>
    let base : Nat := match rm with
      | 0 | 1 | 7 => 12
      | 2 | 3 | 6 => 14
      | 4 => 15
      | _ => 16
    let index : Option Nat := match rm with
      | 0 | 2 => some 15
      | 1 | 3 => some 16
      | _ => none
    if md = 0 ∧ rm = 6 then .mem none none 1 (displacement e (k + 1) 2) .s16
    else .mem (some base) index 1 (displacement e (k + 1) md) .s16
  | .s32 =>
    if rm ≠ 4 then
      if md = 0 ∧ rm = 5 then .mem none none 1 (displacement e (k + 1) 4) .s32
      else .mem (some (17 + rm)) none 1 (displacement e (k + 1) (if md = 2 then 4 else md)) .s32
    else
      let sib := byteAt e (k + 1)
      let index := if sib / 8 % 8 = 4 then none else some (17 + sib / 8 % 8)
      if md = 0 ∧ sib % 8 = 5 then .mem none index (2 ^ (sib / 64)) (displacement e (k + 2) 4) .s32
      else .mem (some (17 + sib % 8)) index (2 ^ (sib / 64)) (displacement e (k + 2) (if md = 2 then 4 else md)) .s32

/-- The operand a source gives in the bytes e of an instruction with k opcode bytes, for the address size z and the
operand size o: register ids by R108 and 10_state.md R25, an immediate or an offset in the last bytes (R102, R113,
R114). -/
def Source.operand (x : Source) (z o : Size) (k : Nat) (e : List Byte) : Operand :=
  let word : Nat → Operand := fun n => match o with
    | .s16 => .reg (9 + n)
    | .s32 => .reg (17 + n)
  let reg := byteAt e k / 8 % 8
  let rm := byteAt e k % 8
  let low := byteAt e (k - 1) % 8
  let last : Nat → Word := fun n => BitVec.ofNat 32 (numberFrom e (e.length - n) n)
  let orMemory : Operand → Operand := fun r => if byteAt e k / 64 = 3 then r else memoryAt z e k
  match x with
  | .rm8 => orMemory (.reg (1 + rm))
  | .rmv => orMemory (word rm)
  | .rm16 => orMemory (.reg (9 + rm))
  | .rm32 => .reg (17 + rm)
  | .reg8 => .reg (1 + reg)
  | .regv => word reg
  | .sreg => .reg (27 + reg)
  | .cr => .reg (44 + reg)
  | .dr => .reg (48 + reg)
  | .tr => .reg (35 + reg)
  | .low8 => .reg (1 + low)
  | .lowv => word low
  | .al => .reg 1
  | .acc => word 0
  | .cl => .reg 2
  | .fixed n => .reg (27 + n)
  | .ib => .imm (last 1) 1
  | .iz => match o with
    | .s16 => .imm (last 2) 2
    | .s32 => .imm (last 4) 4
  | .one => .imm 1 1
  | .moffs => match z with
    | .s16 => .mem none none 1 (last 2) .s16
    | .s32 => .mem none none 1 (last 4) .s32

/-- The bytes match the row (R125): its opcode, but for a register field in it, and its digit. -/
def MapRow.fits (x : MapRow) (e : List Byte) : Prop :=
  (∀ k, k < x.opcode.length → byteAt e k / (if x.plus then 8 else 1) * (if x.plus then 8 else 1) = x.opcode.getD k 0) ∧
  (∀ d, x.digit = some d → byteAt e x.opcode.length / 8 % 8 = d)

/-- The width of a row under the operand size o. -/
def RowSize.width (o : Size) : RowSize → Width
  | .byte => .w8
  | .full => o.width
  | .dword => .w32

/-- The record may stand behind LOCK (R120). -/
def Record.mayLock (r : Record) : Prop :=
  r.op ∈ [OpClass.add, .or, .adc, .sbb, .and, .sub, .xor, .inc, .dec] ∧
  ∃ base index scale disp z, r.operand 0 = .mem base index scale disp z

end Sys2Proof

namespace Sys2Proof.Machine

/-! Values, as unsigned numbers (00_scope.md R10, 20_memory.md R72, R74). -/

/-- The decoded record of an instruction in a state (30_encoding.md R100). -/
def State.recordOf (s : State) (i : Instr) : Record := Instr.record s.codeMode {} i

/-- The number the n bytes from `la` on stand for, byte 0 the least significant. -/
def Memory.numberAt (m : Memory) (la : Word) (n : Nat) : Nat :=
  ((List.range n).map fun k => (m.read (la + BitVec.ofNat 32 k)).toNat * 256 ^ k).sum

/-- The low n bytes of a k-byte immediate, sign-extended where n is larger (42_operands_move.md R162). -/
def immNat (v : Word) (k n : Nat) : Nat :=
  let u := v.toNat % 256 ^ k
  if k < n ∧ 256 ^ k ≤ 2 * u then u + (256 ^ n - 256 ^ k) else u % 256 ^ n

/-- The n-byte value of operand k of a record: a register truncated or zero-extended, the bytes of a memory operand, an
immediate (R160 to R162). -/
def State.sourceNat (s : State) (r : Record) (k n : Nat) : Nat :=
  match r.operand k with
  | .reg id => s.registerValue id % 256 ^ n
  | .mem base index scale disp z => s.mem.numberAt (s.operandAddress r.seg base index scale disp z) n
  | .imm v j => immNat v j n
  | .far _ _ _ => 0
  | .undefinedKind => 0

/-- An even number of 1 bits in the low byte (00_scope.md R12). -/
def evenParity (v : Nat) : Bool := ((List.range 8).countP fun k => v.testBit k) % 2 == 0

/-- EIP past an instruction of `len` bytes (10_state.md R31). -/
def State.eipAfter (s : State) (len : Nat) : Word :=
  match s.seg.cs.operandSize with
  | .s32 => BitVec.ofNat 32 (s.eip.toNat + len)
  | .s16 => BitVec.ofNat 32 ((s.eip.toNat + len) % 2 ^ 16)

/-! What is left alone, and what is delivered. -/

/-- Bit k of the cell g belongs to the general-register view the id names (10_state.md R23, R25). -/
def viewHas (id : Nat) (g : Gpr) (k : Nat) : Prop :=
  (∃ r : Reg8, id = 1 + r.bits.toNat ∧ g = r.cell ∧ (if r.high then 8 ≤ k ∧ k < 16 else k < 8)) ∨
  (id = 9 + g.bits.toNat ∧ k < 16) ∨
  (id = 17 + g.bits.toNat ∧ k < 32)

/-- Every bit of every general register outside the view is unchanged. -/
def gprKept (s t : State) (id : Nat) : Prop :=
  ∀ (g : Gpr) (k : Nat), ¬ viewHas id g k → (t.gpr.get g).getLsbD k = (s.gpr.get g).getLsbD k

/-- Every byte outside the n bytes from `la` on reads as before. -/
def memKept (s t : State) (la : Word) (n : Nat) : Prop :=
  ∀ x : Word, (∀ k, k < n → x ≠ la + BitVec.ofNat 32 k) → t.mem.read x = s.mem.read x

/-- Every byte reads as before. -/
def memSame (s t : State) : Prop := ∀ x : Word, t.mem.read x = s.mem.read x

/-- The n bytes from `la` on hold the number v, low byte first. -/
def memHolds (t : State) (la : Word) (n v : Nat) : Prop :=
  ∀ k, k < n → t.mem.read (la + BitVec.ofNat 32 k) = BitVec.ofNat 8 (v / 256 ^ k)

/-- `t` holds the n-byte value v in the destination operand of the record, addressed in `s`, and every other register bit
and byte of memory is as in `s`. -/
def delivers (s : State) (r : Record) (n v : Nat) (t : State) : Prop :=
  match r.operand 0 with
  | .reg id => t.registerValue id = v ∧ gprKept s t id ∧ memSame s t
  | .mem base index scale disp z =>
    memHolds t (s.operandAddress r.seg base index scale disp z) n v ∧
    memKept s t (s.operandAddress r.seg base index scale disp z) n ∧ t.gpr = s.gpr
  | .imm _ _ => False
  | .far _ _ _ => False
  | .undefinedKind => False

/-- Every EFLAGS bit that is not one of the named flags' own is unchanged. -/
def flagsKept (s t : State) (fs : List Flag) : Prop :=
  ∀ k, (∀ f ∈ fs, k ≠ f.pos) → t.eflags.getLsbD k = s.eflags.getLsbD k

/-- Control, debug, test and descriptor-table registers and the flags `halt` and `exception` are unchanged. -/
def controlKept (s t : State) : Prop :=
  t.cr = s.cr ∧ t.dr = s.dr ∧ t.tr = s.tr ∧ t.gdtr = s.gdtr ∧ t.idtr = s.idtr ∧ t.ldtr = s.ldtr ∧
  t.halt = s.halt ∧ t.exception = s.exception

/-- As `controlKept`, and so are the segment registers and `holdIRQ`. -/
def systemKept (s t : State) : Prop := controlKept s t ∧ t.seg = s.seg ∧ t.holdIRQ = s.holdIRQ

/-- SF, ZF and PF are those of the w-bit result v (43_alu.md R186). -/
def resultFlagsOf (t : State) (w v : Nat) : Prop :=
  getFlag t.eflags .sf = v.testBit (w - 1) ∧ getFlag t.eflags .zf = decide (v = 0) ∧
  getFlag t.eflags .pf = evenParity v

/-- `exec` answers a next state: the one with EIP past the instruction and the given properties. -/
def completesWith (i : Instr) (s : State) (P : State → Prop) : Prop :=
  ∃ t, exec i s = .next t ∧ t.eip = s.eipAfter i.length ∧ P t

/-! Segment loads (41_segmentation.md R140 to R147). -/

/-- Byte k of the GDT descriptor a selector names (R142, R143). -/
def State.descriptorByte (s : State) (sel k : Nat) : Nat :=
  (s.mem.read (s.gdtr.base + BitVec.ofNat 32 (8 * (sel / 8) + k))).toNat

/-- The fields of R144 from the eight bytes d. -/
def segmentOf (sel : Nat) (d : Nat → Nat) : SegReg :=
  let limit20 := d 0 + 2 ^ 8 * d 1 + 2 ^ 16 * (d 6 % 16)
  let size : Size := if (d 6).testBit 6 then .s32 else .s16
  { selector := BitVec.ofNat 16 sel
    base := BitVec.ofNat 32 (d 2 + 2 ^ 8 * d 3 + 2 ^ 16 * d 4 + 2 ^ 24 * d 7)
    limit := BitVec.ofNat 32 (if (d 6).testBit 7 then (limit20 + 1) * 4096 - 1 else limit20)
    addressSize := size
    operandSize := size }

/-- The contents a successful load of the selector gives a segment register (R141, R144, R145). -/
def State.segmentFor (s : State) (sel : Nat) : SegReg :=
  if s.cr.cr0.getLsbD 0 then segmentOf sel (s.descriptorByte sel)
  else
    { selector := BitVec.ofNat 16 sel
      base := BitVec.ofNat 32 (16 * sel)
      limit := 0x0000FFFF#32
      addressSize := .s16
      operandSize := .s16 }

/-! The stack (45_stack.md R215). -/

/-- 2^16 or 2^32: what the stack pointer wraps at. -/
def State.stackModulus (s : State) : Nat :=
  match s.seg.ss.addressSize with
  | .s16 => 2 ^ 16
  | .s32 => 2 ^ 32

/-- SP or ESP. -/
def State.stackTop (s : State) : Nat := s.gpr.esp.toNat % s.stackModulus

/-- The pointer n bytes lower and n bytes higher. -/
def State.topBelow (s : State) (n : Nat) : Nat := (s.stackTop + s.stackModulus - n) % s.stackModulus

def State.topAbove (s : State) (n : Nat) : Nat := (s.stackTop + n) % s.stackModulus

/-- The linear address of a stack offset. -/
def State.stackAddress (s : State) (top : Nat) : Word := s.seg.ss.base + BitVec.ofNat 32 top

/-- The state with the stack pointer at `top`, ESP[31:16] kept on a 16-bit stack. -/
def State.withTop (s : State) (top : Nat) : State :=
  { s with gpr := { s.gpr with
      esp := BitVec.ofNat 32 (s.gpr.esp.toNat / s.stackModulus * s.stackModulus + top) } }

/-- The selector a segment load of the record reads: the source of a MOV, the low word popped by a POP (R152, R225). -/
def State.selectorOf (s : State) (r : Record) : Nat :=
  if r.op = .mov then s.sourceNat r 1 2
  else s.mem.numberAt (s.stackAddress s.stackTop) r.osz.bytes % 2 ^ 16

/-- The load of the record fails: protected mode and TI = 1 (R147). -/
def State.loadFails (s : State) (r : Record) : Prop :=
  (∃ x, r.loads x) ∧ s.cr.cr0.getLsbD 0 = true ∧ (s.selectorOf r).testBit 2 = true

/-- The answers t and t' from the states s and s', which differ in EFLAGS only, are one: they differ in EFLAGS only, and
there each bit is the same in both or is in both the bit the state had before. -/
def sameAnswer (s s' t t' : State) : Prop :=
  t' = { t with eflags := t'.eflags } ∧
  ∀ k, k < 32 → t'.eflags.getLsbD k = t.eflags.getLsbD k ∨
    (t.eflags.getLsbD k = s.eflags.getLsbD k ∧ t'.eflags.getLsbD k = s'.eflags.getLsbD k)

end Sys2Proof.Machine

open Sys2Proof Sys2Proof.Machine

/-! ## Encoding (30_encoding.md) -/

/-- Decoding the encoding of a well-formed instruction, whatever bytes follow, gives the instruction back: no operand bit
is dropped. Every row of the table and every prefix chain. -/
def Obligations.DecodeOfEncode : Prop :=
  ∀ (m : CodeMode) (i : Instr) (rest : List Byte), i.wf m = true → decode m (i.encode ++ rest) = .ok i

/-- Whatever the decoder accepts is well-formed, and its encoding is what the bytes begin with: no byte is read twice or
skipped, no two byte strings of one instruction. -/
def Obligations.EncodeOfDecode : Prop :=
  ∀ (m : CodeMode) (bs : List Byte) (i : Instr), decode m bs = .ok i → i.wf m = true ∧ i.encode <+: bs

/-- The number of bytes of an encoding is the `len` of the record and the length R116 counts. -/
def Obligations.LengthOfEncoding : Prop :=
  ∀ (m : CodeMode) (i : Instr), i.encode.length = i.length ∧ (Instr.record m {} i).len = i.length

/-- Words written out from the opcode map of R118 decode to the instructions they stand for, at least one of each group of
R118 (MOV, ALU, INC and DEC, shifts, PUSH, POP, LGDT and LIDT), and a word that is no row is refused. -/
def Obligations.SampleEncodingsDecode : Prop :=
  decode ⟨.s16, .s16⟩ [0x88#8, 0xE3#8] = .ok (.movRm8R8 (.reg .bl) .ah) ∧
  decode ⟨.s16, .s16⟩ [0x83#8, 0x47#8, 0xFE#8, 0x05#8] = .ok (.addRmvImm8 (.mem (.based16 .bx (.d8 0xFE#8))) 0x05#8) ∧
  decode ⟨.s32, .s32⟩ [0x29#8, 0x84#8, 0x8B#8, 0x78#8, 0x56#8, 0x34#8, 0x12#8] =
    .ok (.subRmvRv (.mem (.sib32 .x4 .ecx .ebx (.d32 0x12345678#32))) .eax) ∧
  decode ⟨.s16, .s16⟩ [0x0F#8, 0x22#8, 0xC0#8] = .ok (.movCrR32 3#2 .cr0 .eax) ∧
  decode ⟨.s16, .s16⟩ [0x8E#8, 0xD8#8] = .ok (.movSregRm16 .ds (.reg .eax)) ∧
  decode ⟨.s16, .s16⟩ [0x43#8] = .ok (.incRv .ebx) ∧
  decode ⟨.s16, .s16⟩ [0xFE#8, 0x4E#8, 0x04#8] = .ok (.decRm8 (.mem (.based16 .bp (.d8 0x04#8)))) ∧
  decode ⟨.s16, .s16⟩ [0xD3#8, 0xE8#8] = .ok (.shrRmvCl (.reg .eax)) ∧
  decode ⟨.s16, .s16⟩ [0x66#8, 0x68#8, 0x01#8, 0x00#8, 0x00#8, 0x80#8] = .ok (.opsize (.pushImm (.i32 0x80000001#32))) ∧
  decode ⟨.s16, .s16⟩ [0x0F#8, 0xA1#8] = .ok .popFs ∧
  decode ⟨.s32, .s32⟩ [0x8F#8, 0x45#8, 0xFC#8] = .ok (.popRmv (.mem (.based32 .ebp (.d8 0xFC#8)))) ∧
  decode ⟨.s16, .s16⟩ [0x26#8, 0x0F#8, 0x01#8, 0x16#8, 0x00#8, 0x10#8] = .ok (.segEs (.lgdt (.direct16 0x1000#16))) ∧
  decode ⟨.s16, .s16⟩ [0x38#8, 0xC0#8] = .error (.notARow 0x38#8)

/-- The encodings R120 names are refused, whatever prefixes stand before them and whatever follows; and what is accepted
behind LOCK is one of the nine operations with a memory destination. -/
def Obligations.RefusedEncodings : Prop :=
  (∀ (m : CodeMode) (ps : List Pfx) (op : List Byte) (x : Byte) (rest : List Byte) (i : Instr),
    refusedEncoding op x = true → decode m (ps.map Pfx.byte ++ op ++ x :: rest) ≠ .ok i) ∧
  ∀ (m : CodeMode) (bs : List Byte) (i : Instr),
    decode m bs = .ok i → (Instr.record m {} i).lock = true → (Instr.record m {} i).mayLock

/-- What prefixes do to the record (R103 to R106, R122): the last segment override and the last of F2 and F3 win, F0 sets
`lock`, 67 flips the address size and 66 the operand size of the forms that follow it, each once however often it
stands; each prefix adds a byte; the opcode class and the number of operands do not change. And what the bytes behind
the prefixes make of it, for every well-formed instruction: they match a row of the opcode map of R118, and the opcode
class, the width (R105) and the operands, destination first (R117), are those of the row, read from the opcode, ModRM,
SIB, displacement and immediate bytes (R107 to R115) with the operand and address size the prefixes give. That the record
holds a 2-byte moffs offset zero-extended is the model's (log 24). -/
def Obligations.PrefixesOnTheRecord : Prop :=
  (∀ (m : CodeMode) (ps : List Pfx) (i : Instr), i.isPlain = true →
    let b := Instr.record m {} i
    let r := Instr.record m {} (withPrefixes ps i)
    r.op = b.op ∧ r.opnd.length = b.opnd.length ∧ r.len = ps.length + b.len ∧
    r.seg = (ps.filterMap Pfx.override).getLast? ∧
    r.rep = ((ps.filterMap Pfx.repeats).getLast?).getD .absent ∧
    (r.lock = true ↔ Pfx.lock ∈ ps) ∧
    r.asz = (if Pfx.adsize ∈ ps then m.addressSize.flip else m.addressSize) ∧
    (b.fixedWidth → r.osz = b.osz) ∧
    (¬ b.fixedWidth → r.osz = (if Pfx.opsize ∈ ps then m.operandSize.flip else m.operandSize).width)) ∧
  ∀ (m : CodeMode) (ps : List Pfx) (i : Instr), i.isPlain = true → (withPrefixes ps i).wf m = true →
    (withPrefixes ps i).encode = ps.map Pfx.byte ++ i.encode ∧
    let r := Instr.record m {} (withPrefixes ps i)
    let o := if Pfx.opsize ∈ ps then m.operandSize.flip else m.operandSize
    let z := if Pfx.adsize ∈ ps then m.addressSize.flip else m.addressSize
    ∃ x ∈ opcodeMap, x.fits i.encode ∧ r.op = x.op ∧ r.osz = x.size.width o ∧
      r.opnd = x.operands.map fun y => y.operand z o x.opcode.length i.encode

/-! ## A step -/

/-- When the decoder reads an instruction from the bytes at CS:EIP of a machine that is not halted, the step is `exec` of it
at that state, the boundary before it having lowered `holdIRQ`. R245 has the boundary lower it; that a step passes the
boundary before the instruction, and not after it, is the model's reading (log 5). -/
def Obligations.StepRunsDecodedInstruction : Prop :=
  ∀ (s : State) (i : Instr), s.halt = false → decode s.codeMode s.fetch = .ok i →
    step s = exec i { s with holdIRQ := false }

/-- When memory holds the encoding of a well-formed instruction from (CS.base + EIP) mod 2^32 on, the step of a machine
that is not halted runs that instruction (R30, R73). That `holdIRQ` is lowered before the instruction is the model's
reading of the boundary (log 5), and so is that an instruction goes on past the end of a 16-bit code segment (log 18). -/
def Obligations.StepRunsInstructionInMemory : Prop :=
  ∀ (s : State) (i : Instr), s.halt = false → i.wf s.codeMode = true →
    (∀ k, k < i.encode.length → some (s.mem.read (s.seg.cs.base + s.eip + BitVec.ofNat 32 k)) = i.encode[k]?) →
    step s = exec i { s with holdIRQ := false }

/-- A halted machine executes nothing: its step changes `holdIRQ` alone, which the boundary lowers (R50; that the step of
a halted machine still passes a boundary is the model's, log 7). And bytes the decoder refuses are refused by name. -/
def Obligations.HaltedAndUndecodableSteps : Prop :=
  (∀ s : State, s.halt = true → step s = .next { s with holdIRQ := false }) ∧
  ∀ (s : State) (e : DecodeError), s.halt = false → decode s.codeMode s.fetch = .error e →
    step s = .refused (.undecodable e)

/-! ## Reset (10_state.md R57 to R63, 70_reset_and_hazards.md R260, R261) -/

/-- Reset sets every register and hidden flag to the values of R57 to R63 and leaves every byte of memory alone; the first
instruction is fetched at 0xFFFFFFF0. The spec marks its own choice of TR0 to TR7, of the hidden flags and of the two
parameters' defaults as decision D22, and the rest as general knowledge. -/
def Obligations.ResetValues : Prop :=
  ∀ (a d : Word) (s : State), let t := s.powerReset a d
    t.gpr = { eax := a, ecx := 0, edx := d, ebx := 0, esp := 0, ebp := 0, esi := 0, edi := 0 } ∧
    t.eip = 0x0000FFF0#32 ∧ t.eflags = 0x00000002#32 ∧
    t.seg.cs = { selector := 0xF000#16, base := 0xFFFF0000#32, limit := 0xFFFF#32, addressSize := .s16, operandSize := .s16 } ∧
    (∀ x : Sreg, x ≠ .cs → t.seg.get x =
      { selector := 0, base := 0, limit := 0xFFFF#32, addressSize := .s16, operandSize := .s16 }) ∧
    t.cr = { cr0 := 0x60000010#32, cr1 := 0, cr2 := 0, cr3 := 0 } ∧
    (∀ n : Fin 8, t.dr.get n = if n = 6 then 0xFFFF0FF0#32 else if n = 7 then 0x00000400#32 else 0) ∧
    (∀ n : Fin 8, t.tr.get n = 0) ∧
    t.gdtr = { base := 0, limit := 0xFFFF#16 } ∧ t.idtr = { base := 0, limit := 0xFFFF#16 } ∧
    t.ldtr = { selector := 0, base := 0, limit := 0xFFFF#32 } ∧
    t.halt = false ∧ t.holdIRQ = false ∧ t.exception = false ∧ memSame s t ∧
    t.seg.cs.base + t.eip = 0xFFFFFFF0#32 ∧
    State.reset = State.resetWith 0x00000000#32 0x00000400#32

/-- The state after reset meets the invariant. -/
def Obligations.ResetMeetsInvariant : Prop := State.reset.inv = true

/-- From every state that meets it, a step that answers a next state answers one that meets it: memory canonical, the fixed
EFLAGS bits fixed (R32), EIP inside a 16-bit code segment (R31), the two sizes of every segment register equal (C5). -/
def Obligations.StepKeepsInvariant : Prop :=
  ∀ s t : State, s.inv = true → step s = .next t → t.inv = true

/-! ## Registers (10_state.md) -/

/-- A write through a view of a general register (ids 1 to 24) replaces that view's bits and preserves every other bit
(R24), nothing else of the state; the view then reads as what was written. -/
def Obligations.WriteThroughView : Prop :=
  ∀ (s : State) (id v : Nat), 1 ≤ id → id ≤ 24 → ∃ t, s.writeRegister id v = .ok t ∧
    t.registerValue id = v % 256 ^ registerSize id ∧ gprKept s t id ∧ t = { s with gpr := t.gpr }

/-- `GetRegisterValue` (R28): the view's bits zero-extended, 32-bit registers whole, selectors zero-extended, the images of
GDTR, IDTR and LDTR as R49 lays them out, and 0 for id 0 and every id from 56 on. The layout of the images is the spec's
choice, its decision D18, which the three clauses of the ids 33, 34 and 43 assume. -/
def Obligations.ReadByRegisterId : Prop :=
  ∀ s : State,
    (∀ r : Reg8, s.registerValue (1 + r.bits.toNat) =
      if r.high then (s.gpr.get r.cell).toNat / 2 ^ 8 % 2 ^ 8 else (s.gpr.get r.cell).toNat % 2 ^ 8) ∧
    (∀ r : Gpr, s.registerValue (9 + r.bits.toNat) = (s.gpr.get r).toNat % 2 ^ 16) ∧
    (∀ r : Gpr, s.registerValue (17 + r.bits.toNat) = (s.gpr.get r).toNat) ∧
    s.registerValue 25 = s.eip.toNat ∧ s.registerValue 26 = s.eflags.toNat ∧
    (∀ x : Sreg, s.registerValue (27 + x.bits.toNat) = (s.seg.get x).selector.toNat) ∧
    (∀ n : Fin 8, s.registerValue (35 + n.val) = (s.tr.get n).toNat) ∧
    (∀ c : Cr, s.registerValue (44 + c.bits.toNat) = (s.cr.get c).toNat) ∧
    (∀ n : Fin 8, s.registerValue (48 + n.val) = (s.dr.get n).toNat) ∧
    s.registerValue 33 = s.gdtr.limit.toNat + 2 ^ 16 * s.gdtr.base.toNat ∧
    s.registerValue 43 = s.idtr.limit.toNat + 2 ^ 16 * s.idtr.base.toNat ∧
    s.registerValue 34 = s.ldtr.selector.toNat + 2 ^ 16 * s.ldtr.base.toNat + 2 ^ 48 * s.ldtr.limit.toNat ∧
    ∀ id, id = 0 ∨ 56 ≤ id → s.registerValue id = 0

/-- A register write by id outside the general registers (R29): EIP and the control, debug and test registers take all 32
bits, EFLAGS its writable bits with the fixed ones fixed (R34), the descriptor-table registers their fields from the
image of R49, id 0 and the ids from 56 on nothing; a segment id goes through the resolver. Writing EFLAGS whole and the
images are the spec's decisions D10 and D18. -/
def Obligations.WriteByRegisterId : Prop :=
  ∀ (s : State) (v : Nat),
    s.writeRegister 25 v = .ok { s with eip := BitVec.ofNat 32 v } ∧
    (∃ e, s.writeRegister 26 v = .ok { s with eflags := e } ∧ ∀ k, k < 32 → e.getLsbD k =
      if k = 1 then true else if k = 3 ∨ k = 5 ∨ k = 15 ∨ 19 ≤ k then false else v.testBit k) ∧
    (∀ x : Sreg, s.writeRegister (27 + x.bits.toNat) v = s.loadSegment x (BitVec.ofNat 16 v)) ∧
    (∀ n : Fin 8, s.writeRegister (35 + n.val) v = .ok { s with tr := s.tr.set n (BitVec.ofNat 32 v) }) ∧
    (∀ c : Cr, s.writeRegister (44 + c.bits.toNat) v = .ok { s with cr := s.cr.set c (BitVec.ofNat 32 v) }) ∧
    (∀ n : Fin 8, s.writeRegister (48 + n.val) v = .ok { s with dr := s.dr.set n (BitVec.ofNat 32 v) }) ∧
    (∀ g : TableReg, s.writeRegister 33 (g.limit.toNat + 2 ^ 16 * g.base.toNat) = .ok { s with gdtr := g }) ∧
    (∀ g : TableReg, s.writeRegister 43 (g.limit.toNat + 2 ^ 16 * g.base.toNat) = .ok { s with idtr := g }) ∧
    (∀ g : LdtReg, s.writeRegister 34 (g.selector.toNat + 2 ^ 16 * g.base.toNat + 2 ^ 48 * g.limit.toNat) =
      .ok { s with ldtr := g }) ∧
    ∀ id, id = 0 ∨ 56 ≤ id → s.writeRegister id v = .ok s

/-- The name table spells every id as R25 does, is bidirectional over the ids 0 to 55 and names nothing else; the sizes of
the ids (R25 to R27). The numbers of the ids and the sizes of the descriptor-table registers are the spec's decisions D7
and D8. -/
def Obligations.RegisterNamesAndSizes : Prop :=
  registerName? 0 = some "(none)" ∧
  (∀ r : Reg8, registerName? (1 + r.bits.toNat) = some (match r with
    | .al => "AL" | .cl => "CL" | .dl => "DL" | .bl => "BL" | .ah => "AH" | .ch => "CH" | .dh => "DH" | .bh => "BH")) ∧
  (∀ r : Gpr, let x := match r with
      | .eax => "AX" | .ecx => "CX" | .edx => "DX" | .ebx => "BX" | .esp => "SP" | .ebp => "BP" | .esi => "SI" | .edi => "DI"
    registerName? (9 + r.bits.toNat) = some x ∧ registerName? (17 + r.bits.toNat) = some ("E" ++ x)) ∧
  registerName? 25 = some "EIP" ∧ registerName? 26 = some "EFLAGS" ∧
  (∀ r : Sreg, registerName? (27 + r.bits.toNat) = some (match r with
    | .es => "ES" | .cs => "CS" | .ss => "SS" | .ds => "DS" | .fs => "FS" | .gs => "GS")) ∧
  registerName? 33 = some "GDT" ∧ registerName? 34 = some "LDT" ∧ registerName? 43 = some "IDTR" ∧
  (∀ n : Fin 8, registerName? (35 + n.val) = some ("TR" ++ toString n.val)) ∧
  (∀ n : Fin 4, registerName? (44 + n.val) = some ("CR" ++ toString n.val)) ∧
  (∀ n : Fin 8, registerName? (48 + n.val) = some ("DR" ++ toString n.val)) ∧
  (∀ id, id < 56 → ∃ x, registerName? id = some x ∧ registerId? x = some id) ∧
  (∀ id, 56 ≤ id → registerName? id = none) ∧
  ∀ id, registerSize id =
    if id = 0 ∨ 56 ≤ id then 0 else if id ≤ 8 then 1 else if id ≤ 16 then 2 else if 27 ≤ id ∧ id ≤ 32 then 2
    else if id = 33 ∨ id = 43 then 6 else if id = 34 then 10 else 4

/-- A flag accessor touches its own bit only, for IOPL its two bits, and reads back what was written (R33); and the bits are
those of R32, whose positions the spec marks as general knowledge. -/
def Obligations.FlagAccessors : Prop :=
  ∀ e : Word,
    getFlag e .cf = e.getLsbD 0 ∧ getFlag e .pf = e.getLsbD 2 ∧ getFlag e .af = e.getLsbD 4 ∧
    getFlag e .zf = e.getLsbD 6 ∧ getFlag e .sf = e.getLsbD 7 ∧ getFlag e .tf = e.getLsbD 8 ∧
    getFlag e .fIf = e.getLsbD 9 ∧ getFlag e .df = e.getLsbD 10 ∧ getFlag e .of = e.getLsbD 11 ∧
    (getIopl e).getLsbD 0 = e.getLsbD 12 ∧ (getIopl e).getLsbD 1 = e.getLsbD 13 ∧
    getFlag e .nt = e.getLsbD 14 ∧ getFlag e .rf = e.getLsbD 16 ∧ getFlag e .vm = e.getLsbD 17 ∧
    getFlag e .ac = e.getLsbD 18 ∧
    (∀ (f : Flag) (b : Bool) (k : Nat), k < 32 →
      (setFlag e f b).getLsbD k = if k = f.pos then b else e.getLsbD k) ∧
    (∀ (v : BitVec 2) (k : Nat), k < 32 →
      (setIopl e v).getLsbD k = if k = 12 then v.getLsbD 0 else if k = 13 then v.getLsbD 1 else e.getLsbD k) ∧
    (∀ (f : Flag) (b : Bool), getFlag (setFlag e f b) f = b) ∧
    ∀ v : BitVec 2, getIopl (setIopl e v) = v

/-! ## Memory and operands (20_memory.md, 42_operands_move.md) -/

/-- Byte k of a segment access lies at (base + off' + k) mod 2^32, off' being the offset mod 2^16 with 16-bit addressing: the
offset wraps, the increment does not (R71). What is written there is read back, in any order of widths (R72, R75), and
every other byte is unchanged. That the sum is reduced mod 2^32 is the spec's decision D4. -/
def Obligations.SegmentAccess : Prop :=
  ∀ (m : Memory) (g : SegReg) (off : Word) (z : Size) (v : List Byte), v.length ≤ 10 →
    let first : Nat := g.base.toNat + (match z with
      | .s16 => off.toNat % 2 ^ 16
      | .s32 => off.toNat)
    (∀ n k, k < n → (segRead m g off n z)[k]? = some (m.read (BitVec.ofNat 32 (first + k)))) ∧
    (∀ k, k < v.length → some ((segWrite m g off v z).read (BitVec.ofNat 32 (first + k))) = v[k]?) ∧
    (∀ x : Word, (∀ k, k < v.length → x ≠ BitVec.ofNat 32 (first + k)) → (segWrite m g off v z).read x = m.read x) ∧
    ∀ k n, k + n ≤ v.length →
      (segWrite m g off v z).readFrom (BitVec.ofNat 32 (first + k)) n = (v.drop k).take n

/-- The offset of a memory operand (R81, R82): base + index * scale + displacement, an absent register counting 0, mod 2^16
or mod 2^32 by the address size; its linear address is in its segment. That the sum is the same for a scale other than
the 1, 2, 4 and 8 of R101 is the model's (log 22). -/
def Obligations.EffectiveAddress : Prop :=
  ∀ (s : State) (seg : Option Sreg) (base index : Option Gpr) (scale : Nat) (disp : Word) (z : Size),
    let value : Option Gpr → Nat := fun o => match o with
      | none => 0
      | some r => match z with
        | .s16 => (s.gpr.get r).toNat % 2 ^ 16
        | .s32 => (s.gpr.get r).toNat
    let ids : Option Gpr → Option Nat := fun o => o.map fun r => r.id z
    let off := (value base + value index * scale + disp.toNat) % (match z with
      | .s16 => 2 ^ 16
      | .s32 => 2 ^ 32)
    (s.offset (ids base) (ids index) scale disp z).toNat = off ∧
    (s.operandAddress seg (ids base) (ids index) scale disp z).toNat =
      ((s.seg.get (operandSegment seg (ids base))).base.toNat + off) % 2 ^ 32

/-- The segment of a memory operand (R83): the override if there is one; else SS for a base SP, BP, ESP or EBP; else DS. The
index has no say: it is no argument. -/
def Obligations.DefaultSegment : Prop :=
  (∀ (x : Sreg) (base : Option Nat), operandSegment (some x) base = x) ∧
  (∀ (r : Gpr) (z : Size), operandSegment none (some (r.id z)) = if r = .esp ∨ r = .ebp then .ss else .ds) ∧
  operandSegment none none = .ds

/-- `Evaluate` (R160 to R163): n bytes of a register, truncated or zero-extended; of memory at the operand's address, byte 0
first; of an immediate, sign-extended where it is narrower; and of a far address its offset and then its selector. That
immediates of a length other than 1, 2 and 4 and far offsets of a length other than 2 and 4 (R101) are taken alike is
the model's (log 22), and so is the sum for another scale in a memory operand's address. -/
def Obligations.EvaluateGivesTheValue : Prop :=
  ∀ (s : State) (r : Record) (k n : Nat),
    (∀ id, r.operand k = .reg id →
      ∃ v, s.evaluate r.seg (r.operand k) n = .ok v ∧ v.length = n ∧ leNat v = s.sourceNat r k n) ∧
    (∀ base index scale disp z, r.operand k = .mem base index scale disp z →
      ∃ v, s.evaluate r.seg (r.operand k) n = .ok v ∧ v.length = n ∧ leNat v = s.sourceNat r k n) ∧
    (∀ x j, r.operand k = .imm x j →
      ∃ v, s.evaluate r.seg (r.operand k) n = .ok v ∧ v.length = n ∧ leNat v = s.sourceNat r k n) ∧
    (∀ sel off j, r.operand k = .far sel off j →
      s.evaluate r.seg (r.operand k) n = .ok (bytesOf j off.toNat ++ bytesOf 2 sel.toNat))

/-- `Store` to an immediate or far operand is InvalidOperand ("immediate used as a destination"), Evaluate or Store of an
operand of undefined kind InvalidOperand too (R166), and nothing else makes Evaluate or Store answer it. Of a whole
record: an operand of undefined kind, a constant destination of MOV, ALU, INC, DEC or POP, and an operand of LGDT or
LIDT that is not memory make it fail so, and a record that has its operands fails so in no other case (R239). An
undefined register id reads 0 and writes nothing. Where R239 does not say which kind is recorded, no kind is claimed.
Apart from the rules: a record that lacks an operand its class takes fails so too, which is the model's (log 11). -/
def Obligations.InvalidOperandCauses : Prop :=
  (∀ (s : State) (g : Option Sreg) (v : OperandValue) (o : Operand), o.isConstant →
    s.store g o v = .error (.invalidOperand .immediateDestination o)) ∧
  (∀ (s : State) (g : Option Sreg) (v : OperandValue) (n : Nat),
    s.store g .undefinedKind v = .error (.invalidOperand .undefinedKind .undefinedKind) ∧
    s.evaluate g .undefinedKind n = .error (.invalidOperand .undefinedKind .undefinedKind)) ∧
  (∀ (s : State) (g : Option Sreg) (op : Operand) (n : Nat) (v : OperandValue) (k : Invalid) (o : Operand),
    (s.evaluate g op n = .error (.invalidOperand k o) → op = .undefinedKind) ∧
    (s.store g op v = .error (.invalidOperand k o) → op = .undefinedKind ∨ op.isConstant)) ∧
  (∀ (s : State) (g : Option Sreg) (id n : Nat) (v : OperandValue), id = 0 ∨ 56 ≤ id →
    s.evaluate g (.reg id) n = .ok (List.replicate n 0) ∧ s.store g (.reg id) v = .ok s) ∧
  (∀ (s : State) (r : Record) (o : Operand), (r.op = .lgdt ∨ r.op = .lidt) → r.opnd.head? = some o → ¬ o.isMem →
    ∃ k, runRecord r s = .fault (.invalidOperand k o) ∧ (o ≠ .undefinedKind → k = .notMemory)) ∧
  (∀ (s : State) (r : Record) (k : Nat), k < r.op.arity → r.opnd[k]? = some .undefinedKind →
    ∃ x o, runRecord r s = .fault (.invalidOperand x o)) ∧
  (∀ (s : State) (r : Record) (o : Operand),
    r.op ∈ [OpClass.mov, .add, .or, .adc, .sbb, .and, .sub, .xor, .inc, .dec, .pop] →
    r.opnd.head? = some o → o.isConstant → r.op.arity ≤ r.opnd.length → .undefinedKind ∉ r.opnd →
    runRecord r s = .fault (.invalidOperand .immediateDestination o)) ∧
  (∀ (s : State) (r : Record) (k : Invalid) (o : Operand), r.op.arity ≤ r.opnd.length →
    runRecord r s = .fault (.invalidOperand k o) → r.invalidAs k o) ∧
  ∀ (s : State) (r : Record), r.opnd.length < r.op.arity → ∃ k o, runRecord r s = .fault (.invalidOperand k o)

/-- Storing what was evaluated, at the operand's own size, changes nothing (R168): a memory operand of any size up to 10
bytes over canonical memory; a register of any id that is not a segment register, EFLAGS having its fixed bits fixed. -/
def Obligations.StoreOfEvaluateChangesNothing : Prop :=
  ∀ (s : State) (g : Option Sreg), s.mem.wf = true → eflagsFixed s.eflags = true →
    (∀ base index scale disp z n, n ≤ 10 → ∃ v,
      s.evaluate g (.mem base index scale disp z) n = .ok v ∧ s.store g (.mem base index scale disp z) v = .ok s) ∧
    ∀ id, ¬ (27 ≤ id ∧ id ≤ 32) → ∃ v,
      s.evaluate g (.reg id) (registerSize id) = .ok v ∧ s.store g (.reg id) v = .ok s

/-! ## Segmentation (41_segmentation.md) -/

/-- A real-mode load (R141): base = selector << 4, limit 0xFFFF, both sizes 16, for every segment register; it cannot fail. -/
def Obligations.RealModeLoad : Prop :=
  ∀ (s : State) (x : Sreg) (sel : Half), s.cr.cr0.getLsbD 0 = false → ∃ t, s.loadSegment x sel = .ok t ∧
    (t.seg.get x).selector = sel ∧ (t.seg.get x).base.toNat = sel.toNat * 2 ^ 4 ∧
    (t.seg.get x).limit = 0x0000FFFF#32 ∧ (t.seg.get x).addressSize = .s16 ∧ (t.seg.get x).operandSize = .s16 ∧
    t.mem = s.mem

/-- The fields of a descriptor (R144): limit from bytes 0 and 1 and the low nibble of byte 6, base from bytes 2 to 4 and
byte 7, granularity bit 7 and size bit 6 of byte 6. That the limit takes the low nibble, where the source it quotes says
top nibble, is the spec's resolution 90_conflicts.md C1. -/
def Obligations.DescriptorDecode : Prop :=
  ∀ (sel : Half) (d0 d1 d2 d3 d4 d5 d6 d7 : Byte),
    let g := protectedSegment sel (valueOf 64 [d0, d1, d2, d3, d4, d5, d6, d7])
    let limit20 := d0.toNat + 2 ^ 8 * d1.toNat + 2 ^ 16 * (d6.toNat % 16)
    g.base.toNat = d2.toNat + 2 ^ 8 * d3.toNat + 2 ^ 16 * d4.toNat + 2 ^ 24 * d7.toNat ∧
    g.limit.toNat = (if d6.getLsbD 7 then (limit20 + 1) * 4096 - 1 else limit20) ∧
    g.addressSize = (if d6.getLsbD 6 then .s32 else .s16) ∧
    g.operandSize = (if d6.getLsbD 6 then .s32 else .s16)

/-- A load in either mode that does not fail gives the register what R141, or R142 to R145 from the descriptor at
GDTR.base + 8 * index, say, and changes no other segment register; with TI = 1 in protected mode it fails (R147). That no
other check is made is the spec's decision D13. -/
def Obligations.SegmentLoadResult : Prop :=
  ∀ (s : State) (x : Sreg) (sel : Half),
    (s.cr.cr0.getLsbD 0 = true ∧ sel.toNat.testBit 2 = true →
      s.loadSegment x sel = .error (.unsupportedFeature .ldtSelector sel)) ∧
    (¬ (s.cr.cr0.getLsbD 0 = true ∧ sel.toNat.testBit 2 = true) → ∃ t, s.loadSegment x sel = .ok t ∧
      t.seg.get x = s.segmentFor sel.toNat ∧ (∀ y, y ≠ x → t.seg.get y = s.seg.get y) ∧
      t = { s with seg := t.seg, holdIRQ := t.holdIRQ })

/-- Every successful load of SS, in either mode, sets `holdIRQ`; loads of the other segment registers do not touch it (R146). -/
def Obligations.StackSegmentLoadHolds : Prop :=
  ∀ (s t : State) (x : Sreg) (sel : Half), s.loadSegment x sel = .ok t →
    t.holdIRQ = if x = .ss then true else s.holdIRQ

/-- LGDT and LIDT (R149 to R151; the byte positions are the spec's decision D18): limit from bytes 0 and 1 of the image, base
from bytes 2 to 5, or from bytes 2 to 4 with a 16-bit operand; every other register, flag and byte is unchanged. -/
def Obligations.DescriptorTableLoads : Prop :=
  ∀ (s : State) (i : Instr) (base index : Option Nat) (scale : Nat) (disp : Word) (z : Size),
    (s.recordOf i).operand 0 = .mem base index scale disp z →
    let r := s.recordOf i
    let la := s.operandAddress r.seg base index scale disp z
    let table : TableReg :=
      { limit := BitVec.ofNat 16 (s.mem.numberAt la 2)
        base := BitVec.ofNat 32 (s.mem.numberAt (la + 2) (if r.osz = .w32 then 4 else 3)) }
    (r.op = .lgdt → exec i s = .next { s with gdtr := table, eip := s.eipAfter i.length }) ∧
    (r.op = .lidt → exec i s = .next { s with idtr := table, eip := s.eipAfter i.length })

/-! ## MOV (42_operands_move.md R169 to R181, 41_segmentation.md R152) -/

/-- Every MOV whose destination is a general register or memory (R169, R171, R173, R175 to R181): the n-byte source value
goes to the destination, where n is the record's width, but 2 for a segment register stored to memory. No flag, system
register, other register bit or other byte changes. -/
def Obligations.MovToRegisterOrMemory : Prop :=
  ∀ (s : State) (i : Instr), (s.recordOf i).op = .mov → (∀ x, ¬ (s.recordOf i).loads x) →
    ¬ (s.recordOf i).writesControl →
    let r := s.recordOf i
    let n := r.movedBytes
    completesWith i s fun t => delivers s r n (s.sourceNat r 1 n) t ∧ t.eflags = s.eflags ∧ systemKept s t

/-- MOV to a control, debug or test register (R170, R172, R174): all 32 bits of the general register, unchanged; nothing else
changes, no segment register for a CR0 write either (10_state.md R39, R43). -/
def Obligations.MovToControlRegister : Prop :=
  ∀ (s : State) (y : BitVec 2) (r : Gpr) (w : List Pfx),
    (∀ c : Cr, exec (withPrefixes w (.movCrR32 y c r)) s =
      .next { s with cr := s.cr.set c (s.gpr.get r), eip := s.eipAfter (w.length + 3) }) ∧
    (∀ n : Fin 8, exec (withPrefixes w (.movDrR32 y n r)) s =
      .next { s with dr := s.dr.set n (s.gpr.get r), eip := s.eipAfter (w.length + 3) }) ∧
    (∀ n : Fin 8, exec (withPrefixes w (.movTrR32 y n r)) s =
      .next { s with tr := s.tr.set n (s.gpr.get r), eip := s.eipAfter (w.length + 3) })

/-- MOV Sreg, r/m16 (R152) for the five registers an encoding admits, in either mode, where R147 does not make it fail: the
register holds what R141 or R142 to R145 give for the 16-bit source; SS raises `holdIRQ` (R146); nothing else changes. -/
def Obligations.MovToSegmentRegister : Prop :=
  ∀ (s : State) (i : Instr) (x : Sreg), (s.recordOf i).op = .mov → (s.recordOf i).loads x → x ≠ .cs →
    ¬ s.loadFails (s.recordOf i) →
    completesWith i s fun t =>
      t.seg.get x = s.segmentFor (s.sourceNat (s.recordOf i) 1 2) ∧ (∀ y, y ≠ x → t.seg.get y = s.seg.get y) ∧
      t.holdIRQ = (if x = .ss then true else s.holdIRQ) ∧
      t.gpr = s.gpr ∧ t.eflags = s.eflags ∧ controlKept s t ∧ memSame s t

/-! ## ALU (43_alu.md) -/

/-- ADD and ADC, every form (R192, R194, by the addition core of R187, whose formulas are the spec's decision D33): result,
the six status flags, and the frame. -/
def Obligations.AddAndAdc : Prop :=
  ∀ (s : State) (i : Instr), ((s.recordOf i).op = .add ∨ (s.recordOf i).op = .adc) →
    let r := s.recordOf i
    let n := r.osz.bytes
    let w := r.osz.bits
    let a := s.sourceNat r 0 n
    let b := s.sourceNat r 1 n
    let c := if r.op = .adc ∧ getFlag s.eflags .cf = true then 1 else 0
    let v := (a + b + c) % 2 ^ w
    completesWith i s fun t =>
      delivers s r n v t ∧
      getFlag t.eflags .cf = decide (2 ^ w ≤ a + b + c) ∧
      getFlag t.eflags .of = decide (a.testBit (w - 1) = b.testBit (w - 1) ∧ v.testBit (w - 1) ≠ a.testBit (w - 1)) ∧
      getFlag t.eflags .af = decide (16 ≤ a % 16 + b % 16 + c) ∧
      resultFlagsOf t w v ∧ flagsKept s t [.cf, .pf, .af, .zf, .sf, .of] ∧ systemKept s t

/-- SUB and SBB, every form (R197, R195, by the subtraction core of R188, decision D33): result, CF, OF, SF, ZF, PF; AF is
the parameter `AF_SUB` of R189 at the operands, a free value; and the frame. -/
def Obligations.SubAndSbb : Prop :=
  ∀ (s : State) (i : Instr), ((s.recordOf i).op = .sub ∨ (s.recordOf i).op = .sbb) →
    let r := s.recordOf i
    let n := r.osz.bytes
    let w := r.osz.bits
    let a := s.sourceNat r 0 n
    let b := s.sourceNat r 1 n
    let borrow := r.op = .sbb ∧ getFlag s.eflags .cf = true
    let c := if borrow then 1 else 0
    let v := (a + 2 ^ w - (b + c)) % 2 ^ w
    completesWith i s fun t =>
      delivers s r n v t ∧
      getFlag t.eflags .cf = decide (a < b + c) ∧
      getFlag t.eflags .of = decide (a.testBit (w - 1) ≠ b.testBit (w - 1) ∧ v.testBit (w - 1) ≠ a.testBit (w - 1)) ∧
      getFlag t.eflags .af = Config.afSub w (BitVec.ofNat w a) (BitVec.ofNat w b) (decide borrow) ∧
      resultFlagsOf t w v ∧ flagsKept s t [.cf, .pf, .af, .zf, .sf, .of] ∧ systemKept s t

/-- AND, OR and XOR, every form (R190, R193, R196, R198): CF and OF cleared, SF, ZF, PF from the result, AF unchanged as the
spec derives; and the frame. -/
def Obligations.AndOrXor : Prop :=
  ∀ (s : State) (i : Instr), ((s.recordOf i).op = .and ∨ (s.recordOf i).op = .or ∨ (s.recordOf i).op = .xor) →
    let r := s.recordOf i
    let n := r.osz.bytes
    let w := r.osz.bits
    let a := s.sourceNat r 0 n
    let b := s.sourceNat r 1 n
    let v : Nat := if r.op = .and then a &&& b else if r.op = .or then a ||| b else a ^^^ b
    completesWith i s fun t =>
      delivers s r n v t ∧
      getFlag t.eflags .cf = false ∧ getFlag t.eflags .of = false ∧
      resultFlagsOf t w v ∧ flagsKept s t [.cf, .pf, .zf, .sf, .of] ∧ systemKept s t

/-- INC, every form (R199): a + 1, OF and AF of the addition core, CF unchanged; and the frame. -/
def Obligations.Increment : Prop :=
  ∀ (s : State) (i : Instr), (s.recordOf i).op = .inc →
    let r := s.recordOf i
    let n := r.osz.bytes
    let w := r.osz.bits
    let a := s.sourceNat r 0 n
    let v := (a + 1) % 2 ^ w
    completesWith i s fun t =>
      delivers s r n v t ∧
      getFlag t.eflags .of = decide (a = 2 ^ (w - 1) - 1) ∧
      getFlag t.eflags .af = decide (a % 16 = 15) ∧
      resultFlagsOf t w v ∧ flagsKept s t [.pf, .af, .zf, .sf, .of] ∧ systemKept s t

/-- DEC, every form (R200): a - 1, OF of the subtraction core, AF the parameter `AF_SUB` (R189) at (a, 1, 0), CF unchanged;
and the frame. -/
def Obligations.Decrement : Prop :=
  ∀ (s : State) (i : Instr), (s.recordOf i).op = .dec →
    let r := s.recordOf i
    let n := r.osz.bytes
    let w := r.osz.bits
    let a := s.sourceNat r 0 n
    let v := (a + (2 ^ w - 1)) % 2 ^ w
    completesWith i s fun t =>
      delivers s r n v t ∧
      getFlag t.eflags .of = decide (a = 2 ^ (w - 1)) ∧
      getFlag t.eflags .af = Config.afSub w (BitVec.ofNat w a) (BitVec.ofNat w 1) false ∧
      resultFlagsOf t w v ∧ flagsKept s t [.pf, .af, .zf, .sf, .of] ∧ systemKept s t

/-- The two forms R189 gives the reference value of `AF_SUB` are one: the borrow out of bit 3, and bit 4 of a XOR b XOR r. -/
def Obligations.ReferenceAuxiliaryCarry : Prop :=
  ∀ (x : Width) (a b : BitVec x.bits) (bin : Bool),
    Config.afSubRef x.bits a b bin = (a ^^^ b ^^^ (a - b - BitVec.ofNat x.bits bin.toNat)).getLsbD 4

/-! ## Shifts (44_shift.md) -/

/-- SHL, every form, with a masked count c of 1 to 31 (R205, R207, R209 to R211; that the count is masked and SF, ZF and PF
are written are the spec's decisions D34 and D35): result, CF the last bit out, OF for c = 1 only; and the frame. -/
def Obligations.ShiftLeft : Prop :=
  ∀ (s : State) (i : Instr), (s.recordOf i).op = .shl → s.sourceNat (s.recordOf i) 1 1 % 32 ≠ 0 →
    let r := s.recordOf i
    let n := r.osz.bytes
    let w := r.osz.bits
    let a := s.sourceNat r 0 n
    let c := s.sourceNat r 1 1 % 32
    let v := a * 2 ^ c % 2 ^ w
    let cf := decide (c ≤ w) && a.testBit (w - c)
    completesWith i s fun t =>
      delivers s r n v t ∧
      getFlag t.eflags .cf = cf ∧
      getFlag t.eflags .of = (if c = 1 then xor (v.testBit (w - 1)) cf else getFlag s.eflags .of) ∧
      resultFlagsOf t w v ∧ flagsKept s t [.cf, .pf, .zf, .sf, .of] ∧ systemKept s t

/-- SHR, every form, with a masked count c of 1 to 31 (R205, R208 to R210, R212; decisions D34 and D35). -/
def Obligations.ShiftRight : Prop :=
  ∀ (s : State) (i : Instr), (s.recordOf i).op = .shr → s.sourceNat (s.recordOf i) 1 1 % 32 ≠ 0 →
    let r := s.recordOf i
    let n := r.osz.bytes
    let w := r.osz.bits
    let a := s.sourceNat r 0 n
    let c := s.sourceNat r 1 1 % 32
    let v := a / 2 ^ c
    completesWith i s fun t =>
      delivers s r n v t ∧
      getFlag t.eflags .cf = (decide (c ≤ w) && a.testBit (c - 1)) ∧
      getFlag t.eflags .of = (if c = 1 then a.testBit (w - 1) else getFlag s.eflags .of) ∧
      resultFlagsOf t w v ∧ flagsKept s t [.cf, .pf, .zf, .sf, .of] ∧ systemKept s t

/-- A masked count of zero changes nothing but EIP (R206; decision D34). -/
def Obligations.ShiftByZero : Prop :=
  ∀ (s : State) (i : Instr), ((s.recordOf i).op = .shl ∨ (s.recordOf i).op = .shr) →
    s.sourceNat (s.recordOf i) 1 1 % 32 = 0 → exec i s = .next { s with eip := s.eipAfter i.length }

/-! ## Stack (45_stack.md) -/

/-- PUSH, every form (R216, R220 to R223): the source is read before the pointer moves, the pointer goes n bytes down with
its wrap (R215), the n bytes of the value lie at the new top; no flag, no other register bit, no other byte changes. -/
def Obligations.PushStores : Prop :=
  ∀ (s : State) (i : Instr), (s.recordOf i).op = .push →
    let r := s.recordOf i
    let n := r.osz.bytes
    let top := s.topBelow n
    completesWith i s fun t =>
      memHolds t (s.stackAddress top) n (s.sourceNat r 0 n) ∧ memKept s t (s.stackAddress top) n ∧
      t.gpr = (s.withTop top).gpr ∧ t.eflags = s.eflags ∧ systemKept s t

/-- POP into a general register or memory (R217, R224, R226): the n bytes at the top go to the destination, which is
addressed and written after the pointer has gone n bytes up; nothing else changes. -/
def Obligations.PopStores : Prop :=
  ∀ (s : State) (i : Instr), (s.recordOf i).op = .pop → (∀ x, ¬ (s.recordOf i).loads x) →
    let r := s.recordOf i
    let n := r.osz.bytes
    completesWith i s fun t =>
      delivers (s.withTop (s.topAbove n)) r n (s.mem.numberAt (s.stackAddress s.stackTop) n) t ∧
      t.eflags = s.eflags ∧ systemKept s t

/-- POP into a segment register (R225) in either mode, where R147 does not make it fail: the pointer goes n bytes up, the low
word of the n bytes is the selector loaded; POP SS raises `holdIRQ`; nothing else changes. -/
def Obligations.PopLoadsSegment : Prop :=
  ∀ (s : State) (i : Instr) (x : Sreg), (s.recordOf i).op = .pop → (s.recordOf i).loads x →
    ¬ s.loadFails (s.recordOf i) →
    let n := (s.recordOf i).osz.bytes
    completesWith i s fun t =>
      t.seg.get x = s.segmentFor (s.mem.numberAt (s.stackAddress s.stackTop) n % 2 ^ 16) ∧
      (∀ y, y ≠ x → t.seg.get y = s.seg.get y) ∧
      t.holdIRQ = (if x = .ss then true else s.holdIRQ) ∧
      t.gpr = (s.withTop (s.topAbove n)).gpr ∧ t.eflags = s.eflags ∧ controlKept s t ∧ memSame s t

/-- Push followed by Pop of the same width returns the value pushed and restores the pointer, on a 16-bit stack with its wrap
and on a 32-bit one (R219). -/
def Obligations.PopAfterPush : Prop :=
  ∀ (s : State) (n : Nat) (v : List Byte), n = 2 ∨ n = 4 → v.length = n →
    ((s.push n v).pop n).1 = v ∧ ((s.push n v).pop n).2 = { s with mem := (s.push n v).mem }

/-! ## Every instruction -/

/-- Every row of the table, with any prefixes, completes in every state, but for a segment load that R147 makes fail. No
privilege, mode, limit, alignment or operand value stops one. -/
def Obligations.EveryRowCompletes : Prop :=
  ∀ (s : State) (i : Instr), ¬ s.loadFails (s.recordOf i) → ∃ t, exec i s = .next t

/-- The one way an instruction fails (R147, R238): a MOV or POP into a segment register in protected mode whose selector has
TI = 1, and then it does fail, with the kind and the selector. -/
def Obligations.FailureIsLdtSelectorLoad : Prop :=
  ∀ (s : State) (i : Instr) (e : Fault),
    exec i s = .fault e ↔ s.loadFails (s.recordOf i) ∧
      e = .unsupportedFeature .ldtSelector (BitVec.ofNat 16 (s.selectorOf (s.recordOf i)))

/-- EIP goes past the instruction, mod 2^16 in a 16-bit code segment (R31), for every instruction that completes: the block
has no control transfer. -/
def Obligations.EipMovesPastInstruction : Prop :=
  ∀ (s t : State) (i : Instr), ¬ (s.recordOf i).loads .cs → exec i s = .next t → t.eip = s.eipAfter i.length

/-- What each kind of instruction may write outside the general registers, memory and EIP (R32, R35, R39, R48, R50 to R52,
R191, R249): control, debug and test registers only by MOV to them, GDTR only by LGDT, IDTR only by LIDT, LDTR, `halt`
and `exception` never, a segment register only by a load of it, `holdIRQ` only by a load of SS, EFLAGS only by ALU
operations and shifts. -/
def Obligations.SystemStateWriters : Prop :=
  ∀ (s t : State) (i : Instr), exec i s = .next t →
    let r := s.recordOf i
    (∀ c, t.cr.get c ≠ s.cr.get c → r.op = .mov ∧ r.operand 0 = .reg (44 + c.bits.toNat)) ∧
    (∀ n, t.dr.get n ≠ s.dr.get n → r.op = .mov ∧ r.operand 0 = .reg (48 + n.val)) ∧
    (∀ n, t.tr.get n ≠ s.tr.get n → r.op = .mov ∧ r.operand 0 = .reg (35 + n.val)) ∧
    (t.gdtr ≠ s.gdtr → r.op = .lgdt) ∧ (t.idtr ≠ s.idtr → r.op = .lidt) ∧
    t.ldtr = s.ldtr ∧ t.halt = s.halt ∧ t.exception = s.exception ∧
    (∀ x, t.seg.get x ≠ s.seg.get x → r.loads x) ∧
    (t.holdIRQ ≠ s.holdIRQ → r.loads .ss) ∧
    (t.eflags ≠ s.eflags → r.op ∈ [OpClass.add, .or, .adc, .sbb, .and, .sub, .xor, .inc, .dec, .shl, .shr])

/-- No instruction writes a control or system flag or a reserved bit of EFLAGS (R32, R191): only CF, PF, AF, ZF, SF and OF
can change. -/
def Obligations.OnlyStatusFlagsChange : Prop :=
  ∀ (s t : State) (i : Instr), exec i s = .next t → flagsKept s t [.cf, .pf, .af, .zf, .sf, .of]

/-- No instruction is told by any EFLAGS bit other than CF (R35; decision D11): from two states that differ in EFLAGS but agree
on CF it answers alike, every EFLAGS bit being the same in both answers or in both the bit the state had before. -/
def Obligations.OnlyCarryIsRead : Prop :=
  ∀ (s : State) (i : Instr) (e : Word), getFlag e .cf = getFlag s.eflags .cf →
    (∀ t, exec i s = .next t → ∃ t', exec i { s with eflags := e } = .next t' ∧ sameAnswer s { s with eflags := e } t t') ∧
    ∀ f, exec i s = .fault f → exec i { s with eflags := e } = .fault f

/-- A repeat prefix or LOCK before an instruction adds its byte to EIP's advance and does nothing else; CX and ECX are not
touched (R78, R122, R234; decisions D26, D28 and D36). -/
def Obligations.RepAndLockDoNothing : Prop :=
  ∀ (s : State) (i : Instr) (p : Pfx), p = .rep ∨ p = .repne ∨ p = .lock → ¬ (s.recordOf i).loads .cs →
    (∀ t, exec i s = .next t → exec (p.wrap i) s = .next { t with eip := s.eipAfter (i.length + 1) }) ∧
    ∀ e, exec i s = .fault e → exec (p.wrap i) s = .fault e

/-- No step loads CS, and so the sizes code is decoded under never change (R153). -/
def Obligations.StepNeverLoadsCs : Prop :=
  ∀ s t : State, step s = .next t → t.seg.cs = s.seg.cs

/-- A step changes the mode only by running a MOV to CR0, which then writes PE (R249; decision D15). -/
def Obligations.ModeChangesOnlyByMovCr0 : Prop :=
  ∀ s t : State, step s = .next t → t.pe ≠ s.pe →
    ∃ i, decode s.codeMode s.fetch = .ok i ∧ (s.recordOf i).op = .mov ∧ (s.recordOf i).operand 0 = .reg 44 ∧
      t.pe = (s.sourceNat (s.recordOf i) 1 4).testBit 0

/-! ## Interrupts (60_exceptions.md) and the repeat controller (46_repeat.md) -/

/-- The interrupt window (R245; decision D38): with `holdIRQ` up nothing is delivered, not even an NMI, and the hold is gone
after that boundary; else a maskable request needs IF = 1 and an NMI needs nothing; without a request nothing happens.
That an NMI is delivered through vector 2 is the model's (log 14, PRESUMED from the list R241 gives for reference). -/
def Obligations.InterruptWindow : Prop :=
  ∀ (s : State) (v : Byte) (req : Option Request),
    (s.holdIRQ = true → s.driverBoundary req = .next { s with holdIRQ := false }) ∧
    (s.holdIRQ = false → s.driverBoundary (some .nmi) = s.deliver 2#8) ∧
    (s.holdIRQ = false → getFlag s.eflags .fIf = true → s.driverBoundary (some (.maskable v)) = s.deliver v) ∧
    (s.holdIRQ = false → getFlag s.eflags .fIf = false → s.driverBoundary (some (.maskable v)) = .next s) ∧
    (s.holdIRQ = false → s.driverBoundary none = .next s)

/-- After an instruction that loads SS no request is delivered at the next boundary; after the instruction that follows, a
window is open again unless it too loaded SS (R146, R245, R265). -/
def Obligations.SsShadowLastsOneBoundary : Prop :=
  ∀ (s t u : State) (i j : Instr), exec i s = .next t → (s.recordOf i).loads .ss →
    exec j t.boundary = .next u →
    (∀ req, t.driverBoundary req = .next t.boundary) ∧ (u.holdIRQ = true ↔ (t.boundary.recordOf j).loads .ss)

/-- Real-mode delivery of a vector (R248, which the spec gives for reference; log 13): FLAGS, CS and IP lie on the stack, IF,
TF and AC are clear, CS:IP come from the entry at IDTR.base + 4v, a halt ends; nothing else changes. -/
def Obligations.RealModeDelivery : Prop :=
  ∀ (s : State) (v : Byte), s.cr.cr0.getLsbD 0 = false →
    ∃ t, s.deliver v = .next t ∧
      let entry := s.idtr.base + BitVec.ofNat 32 (4 * v.toNat)
      t.eip = BitVec.ofNat 32 (t.mem.numberAt entry 2) ∧
      t.seg.cs = s.segmentFor (t.mem.numberAt (entry + 2) 2) ∧
      (∀ x, x ≠ Sreg.cs → t.seg.get x = s.seg.get x) ∧
      memHolds t (s.stackAddress (s.topBelow 2)) 2 (s.eflags.toNat % 2 ^ 16) ∧
      memHolds t (s.stackAddress (s.topBelow 4)) 2 s.seg.cs.selector.toNat ∧
      memHolds t (s.stackAddress (s.topBelow 6)) 2 (s.eip.toNat % 2 ^ 16) ∧
      (∀ x : Word, (∀ j k, (j = 2 ∨ j = 4 ∨ j = 6) → k < 2 →
        x ≠ s.stackAddress (s.topBelow j) + BitVec.ofNat 32 k) → t.mem.read x = s.mem.read x) ∧
      t.gpr = (s.withTop (s.topBelow 6)).gpr ∧
      getFlag t.eflags .fIf = false ∧ getFlag t.eflags .tf = false ∧ getFlag t.eflags .ac = false ∧
      flagsKept s t [.fIf, .tf, .ac] ∧
      t.halt = false ∧ t.holdIRQ = s.holdIRQ ∧ t.exception = s.exception ∧
      t.cr = s.cr ∧ t.dr = s.dr ∧ t.tr = s.tr ∧ t.gdtr = s.gdtr ∧ t.idtr = s.idtr ∧ t.ldtr = s.ldtr

/-- The return reverses the delivery (R248; log 13): the stack pointer and every other general register, IP, the CS selector
with its real-mode cache and FLAGS are back. -/
def Obligations.ReturnReversesDelivery : Prop :=
  ∀ (s t : State) (v : Byte), s.cr.cr0.getLsbD 0 = false → eflagsFixed s.eflags = true → s.deliver v = .next t →
    ∃ u, t.leaveVector = .ok u ∧ u.gpr = s.gpr ∧ u.eip = BitVec.ofNat 32 (s.eip.toNat % 2 ^ 16) ∧
      u.seg.cs = s.segmentFor s.seg.cs.selector.toNat ∧ (∀ x, x ≠ Sreg.cs → u.seg.get x = s.seg.get x) ∧
      (∀ k, k < 16 → u.eflags.getLsbD k = s.eflags.getLsbD k) ∧ u.mem = t.mem

/-- `REPCheck` (R230, R231): without a prefix go on with no cycle cost; with REP or REPNE stop at 5 cycles when CX or ECX, by
the address size, is 0, else go on at 7 cycles with the register one lower; CX leaves ECX[31:16]; nothing else changes. -/
def Obligations.RepeatCheck : Prop :=
  ∀ (s : State) (z : Size),
    repCheck .absent z s = ⟨s, true, none⟩ ∧
    ∀ p : Rep, p ≠ .absent →
      let id := match z with
        | .s16 => 10
        | .s32 => 18
      (s.registerValue id = 0 → repCheck p z s = ⟨s, false, some 5⟩) ∧
      (s.registerValue id ≠ 0 →
        (repCheck p z s).goOn = true ∧ (repCheck p z s).cycles = some 7 ∧
        (repCheck p z s).state.registerValue id = s.registerValue id - 1 ∧
        gprKept s (repCheck p z s).state id ∧
        (repCheck p z s).state = { s with gpr := (repCheck p z s).state.gpr })

/-- A repeated string instruction whose body neither touches the counter, EIP and CS nor ends the loop stays at its EIP for
as many steps as the counter says, which count it down to 0, and the next step goes past it (R232; decision D36). The
body is a parameter the spec leaves open. -/
def Obligations.RepeatedInstructionEnds : Prop :=
  ∀ (body : State → State × Bool) (r : Record) (s : State), r.rep ≠ .absent →
    (∀ u : State, (body u).1.gpr.ecx = u.gpr.ecx ∧ (body u).1.eip = u.eip ∧ (body u).1.seg.cs = u.seg.cs ∧
      (body u).2 = false) →
    let one := fun u => (stringStep body r u).1
    (∀ k, k ≤ s.repCount r.asz → (one^[k] s).eip = s.eip ∧ (one^[k] s).repCount r.asz = s.repCount r.asz - k) ∧
    (one^[s.repCount r.asz + 1] s).eip = s.eipAfter r.len

/-! ## Text interfaces (10_state.md R54 to R56) -/

/-- The dump of the reset state (R57 to R63), byte for byte, with `DUMP_FORMAT` at its default (R54 to R56; decision D21). EAX
and EDX show the defaults of `RESET_EAX` and `CPU_SIGNATURE` (R63, decision D22), which `State.reset` takes (log 4). -/
def Obligations.DumpOfReset : Prop :=
  dump Config.dumpFormatDefault State.reset =
    "CS:EIP=F000:0000FFF0  LINEAR:FFFFFFF0  EFLAGS=00000002\n" ++
    "EAX=00000000 EBX=00000000 ECX=00000000 EDX=00000400\n" ++
    "ESI=00000000 EDI=00000000 EBP=00000000 ESP=00000000\n" ++
    "CR0=60000010 CR1=00000000 CR2=00000000 CR3=00000000\n" ++
    "CF0 PF0 AF0 ZF0 SF0 TF0 IF0 DF0 OF0 IOPL0 NT0 RF0 VM0 AC0\n"
end

