-- ==== Sys2Proof/Laws/Bytes.lean ====
section
/-! SUPPORT. Byte sequences and the numbers they stand for. -/

namespace Sys2Proof

@[simp] theorem bytesOf_length (n v : Nat) : (bytesOf n v).length = n := by
  induction n generalizing v with
  | zero => rfl
  | succ n ih => simp [bytesOf, ih]

@[simp] theorem leNat_nil : leNat [] = 0 := rfl

@[simp] theorem leNat_cons (b : Byte) (bs : List Byte) : leNat (b :: bs) = b.toNat + 256 * leNat bs := rfl

theorem leNat_lt (bs : List Byte) : leNat bs < 256 ^ bs.length := by
  induction bs with
  | nil => simp
  | cons b bs ih =>
    have hb : b.toNat < 256 := b.isLt
    simp only [leNat_cons, List.length_cons, Nat.pow_succ]
    omega

theorem leNat_append (xs ys : List Byte) : leNat (xs ++ ys) = leNat xs + 256 ^ xs.length * leNat ys := by
  induction xs with
  | nil => simp
  | cons b xs ih => simp [ih, Nat.pow_succ]; ring

/-- Reading back the bytes of a number gives its low bytes. -/
@[simp] theorem leNat_bytesOf (n v : Nat) : leNat (bytesOf n v) = v % 256 ^ n := by
  induction n generalizing v with
  | zero => simp [bytesOf, Nat.mod_one]
  | succ n ih =>
    simp only [bytesOf, leNat_cons, ih, BitVec.toNat_ofNat]
    have e : 256 ^ (n + 1) = 256 * 256 ^ n := by rw [Nat.pow_add, Nat.pow_one, Nat.mul_comm]
    rw [e, Nat.mod_mul]

theorem leNat_bytesOf_of_lt {n v : Nat} (h : v < 256 ^ n) : leNat (bytesOf n v) = v := by
  rw [leNat_bytesOf, Nat.mod_eq_of_lt h]

/-- A byte sequence is the bytes of its number. -/
theorem bytesOf_leNat (bs : List Byte) : bytesOf bs.length (leNat bs) = bs := by
  induction bs with
  | nil => rfl
  | cons b bs ih =>
    have hb : b.toNat < 256 := b.isLt
    have h1 : (b.toNat + 256 * leNat bs) / 256 = leNat bs := by omega
    have h2 : BitVec.ofNat 8 (b.toNat + 256 * leNat bs) = b := by
      apply BitVec.eq_of_toNat_eq
      simp only [BitVec.toNat_ofNat]
      omega
    simp [bytesOf, h1, h2, ih]

/-- Two sequences of one length that stand for one number are one sequence. -/
theorem leNat_inj {xs ys : List Byte} (hl : xs.length = ys.length) (h : leNat xs = leNat ys) : xs = ys := by
  rw [← bytesOf_leNat xs, ← bytesOf_leNat ys, hl, h]

@[simp] theorem Width.bits_eq (w : Width) : w.bits = 8 * w.bytes := by cases w <;> rfl

theorem pow_bits (w : Width) : 2 ^ w.bits = 256 ^ w.bytes := by cases w <;> rfl

/-- The value of a width's bytes of a number. -/
@[simp] theorem valueOf_bytesOf (n v : Nat) : valueOf (8 * n) (bytesOf n v) = BitVec.ofNat (8 * n) v := by
  apply BitVec.eq_of_toNat_eq
  simp [valueOf, Nat.pow_mul]

theorem valueOf_toNat (n : Nat) (bs : List Byte) (h : bs.length ≤ n) : (valueOf (8 * n) bs).toNat = leNat bs := by
  have h1 := leNat_lt bs
  have h2 : 256 ^ bs.length ≤ 256 ^ n := Nat.pow_le_pow_right (by decide) h
  simp only [valueOf, BitVec.toNat_ofNat, Nat.pow_mul]
  exact Nat.mod_eq_of_lt (lt_of_lt_of_le h1 h2)

/-- A sequence of the right length is not changed by resizing. -/
theorem Machine.resize_eq_self {n : Nat} {v : List Byte} (h : v.length = n) : Machine.resize n v = v := by
  subst h; simp [Machine.resize]

@[simp] theorem Machine.resize_length (n : Nat) (v : List Byte) : (Machine.resize n v).length = n := by
  simp [Machine.resize]

end Sys2Proof
end

