-- ==== Sys2Proof/Laws/Decode.lean ====
section
/-! SUPPORT. Each piece of an encoding is read back as what it encodes, whatever follows it. -/

namespace Sys2Proof

@[simp] theorem andThen_ok {α β : Type} (x : α) (bs : List Byte) (f : α → List Byte → Read β) :
    Read.andThen (.ok (x, bs)) f = f x bs := rfl

@[simp] theorem andThen_error {α β : Type} (e : DecodeError) (f : α → List Byte → Read β) :
    Read.andThen (.error e) f = .error e := rfl

/-- A chain of reads that succeeds has read its first piece. -/
theorem andThen_eq_ok {α β : Type} {r : Read α} {f : α → List Byte → Read β} {y : β} {rest : List Byte}
    (h : Read.andThen r f = .ok (y, rest)) : ∃ x bs, r = .ok (x, bs) ∧ f x bs = .ok (y, rest) := by
  cases r with
  | error e => cases h
  | ok p => exact ⟨p.1, p.2, rfl, h⟩

@[simp] theorem gpr_ofBits_bits (r : Gpr) : Gpr.ofBits r.bits = r := by cases r <;> rfl

@[simp] theorem reg8_ofBits_bits (r : Reg8) : Reg8.ofBits r.bits = r := by cases r <;> rfl

@[simp] theorem sreg_ofBits_bits (r : Sreg) : Sreg.ofBits? r.bits = some r := by cases r <;> rfl

@[simp] theorem base16_ofBits_bits (r : Base16) : Base16.ofBits r.bits = r := by cases r <;> rfl

@[simp] theorem scale_ofBits_bits (r : Scale) : Scale.ofBits r.bits = r := by cases r <;> rfl

@[simp] theorem aluOp_ofDigit_digit (x : AluOp) : AluOp.ofDigit x.digit = some x := by cases x <;> rfl

@[simp] theorem gpr_bits_ofBits (n : BitVec 3) : (Gpr.ofBits n).bits = n := by revert n; decide

@[simp] theorem reg8_bits_ofBits (n : BitVec 3) : (Reg8.ofBits n).bits = n := by revert n; decide

@[simp] theorem base16_bits_ofBits (n : BitVec 3) : (Base16.ofBits n).bits = n := by revert n; decide

@[simp] theorem scale_bits_ofBits (n : BitVec 2) : (Scale.ofBits n).bits = n := by revert n; decide

theorem sreg_ofBits_eq {n : BitVec 3} {r : Sreg} (h : Sreg.ofBits? n = some r) : r.bits = n := by
  revert n r; decide

@[simp] theorem modrm_md (md : BitVec 2) (reg rm : BitVec 3) : (modrm md reg rm).extractLsb' 6 2 = md := by
  revert md reg rm; decide

@[simp] theorem modrm_reg (md : BitVec 2) (reg rm : BitVec 3) : (modrm md reg rm).extractLsb' 3 3 = reg := by
  revert md reg rm; decide

@[simp] theorem modrm_rm (md : BitVec 2) (reg rm : BitVec 3) : (modrm md reg rm).extractLsb' 0 3 = rm := by
  revert md reg rm; decide

/-- A byte is the ModRM byte of its fields. -/
@[simp] theorem modrm_fields (b : Byte) : modrm (b.extractLsb' 6 2) (b.extractLsb' 3 3) (b.extractLsb' 0 3) = b := by
  apply BitVec.eq_of_getLsbD_eq
  intro i hi
  simp only [modrm, BitVec.getLsbD_append, BitVec.getLsbD_extractLsb']
  interval_cases i <;> simp

@[simp] theorem readByte_cons (b : Byte) (bs : List Byte) : readByte (b :: bs) = .ok (b, bs) := rfl

@[simp] theorem readModRM_modrm (md : BitVec 2) (reg rm : BitVec 3) (bs : List Byte) :
    readModRM (modrm md reg rm :: bs) = .ok (⟨md, reg, rm⟩, bs) := by simp [readModRM]

theorem le16_bytes (d : Half) : le16 (d.extractLsb' 0 8) (d.extractLsb' 8 8) = d := by
  apply BitVec.eq_of_getLsbD_eq
  intro i hi
  simp only [le16, BitVec.getLsbD_append, BitVec.getLsbD_extractLsb']
  by_cases h : i < 8
  · simp [h]
  · have h1 : i - 8 < 8 := by omega
    have h2 : 8 + (i - 8) = i := by omega
    simp [h, h1, h2]

theorem le32_bytes (d : Word) :
    le32 (d.extractLsb' 0 8) (d.extractLsb' 8 8) (d.extractLsb' 16 8) (d.extractLsb' 24 8) = d := by
  apply BitVec.eq_of_getLsbD_eq
  intro i hi
  simp only [le32, BitVec.getLsbD_append, BitVec.getLsbD_extractLsb']
  interval_cases i <;> simp

@[simp] theorem readHalf_bytes (d : Half) (bs : List Byte) : readHalf (Half.bytes d ++ bs) = .ok (d, bs) := by
  simp [Half.bytes, readHalf, le16_bytes]

@[simp] theorem readWord_bytes (d : Word) (bs : List Byte) : readWord (Word.bytes d ++ bs) = .ok (d, bs) := by
  simp [Word.bytes, readWord, le32_bytes]

@[simp] theorem readDisp16_encode (d : Disp16) (bs : List Byte) :
    readDisp16 d.mode (d.encode ++ bs) = .ok (d, bs) := by
  cases d <;> simp [Disp16.mode, Disp16.encode, readDisp16]

@[simp] theorem readDisp32_encode (d : Disp32) (bs : List Byte) :
    readDisp32 d.mode (d.encode ++ bs) = .ok (d, bs) := by
  cases d <;> simp [Disp32.mode, Disp32.encode, readDisp32]

theorem disp16_mode_ne (d : Disp16) : d.mode ≠ 3 := by cases d <;> simp [Disp16.mode]

theorem disp32_mode_ne (d : Disp32) : d.mode ≠ 3 := by cases d <;> simp [Disp32.mode]

theorem disp16_mode_eq {d : Disp16} (h : d.mode = 0) : d = .d0 := by cases d <;> first | rfl | cases h

theorem disp32_mode_eq {d : Disp32} (h : d.mode = 0) : d = .d0 := by cases d <;> first | rfl | cases h

/-- A memory form that its address size admits is read back (R109 to R112). -/
theorem readMem_encode {z : Size} {f : MemForm} (h : f.ok z = true) (reg : BitVec 3) (bs : List Byte) :
    ∃ md rm tail, f.encode reg ++ bs = modrm md reg rm :: tail ∧ md ≠ 3 ∧ readMem z md rm tail = .ok (f, bs) := by
  simp only [MemForm.ok, Bool.and_eq_true, beq_iff_eq] at h
  obtain ⟨hz, hf⟩ := h
  subst hz
  cases f with
  | direct16 d => exact ⟨0, 6, _, rfl, by decide, by simp [MemForm.asz, readMem, readMem16]⟩
  | based16 b d =>
    refine ⟨d.mode, b.bits, _, rfl, disp16_mode_ne d, ?_⟩
    have hn : ¬ (d.mode = 0 ∧ b.bits = 6) := by
      rintro ⟨h0, hb⟩
      have := disp16_mode_eq h0
      subst this
      cases b <;> simp [Base16.bits] at hb hf
    show readMem16 d.mode b.bits (d.encode ++ bs) = _
    unfold readMem16
    rw [if_neg hn]
    simp
  | direct32 d => exact ⟨0, 5, _, rfl, by decide, by simp [MemForm.asz, readMem, readMem32]⟩
  | based32 b d =>
    refine ⟨d.mode, b.bits, _, rfl, disp32_mode_ne d, ?_⟩
    have h4 : b.bits ≠ 4 := by intro hb; cases b <;> simp [Gpr.bits] at hb hf
    have hn : ¬ (d.mode = 0 ∧ b.bits = 5) := by
      rintro ⟨h0, hb⟩
      have := disp32_mode_eq h0
      subst this
      cases b <;> simp [Gpr.bits] at hb hf
    show readMem32 d.mode b.bits (d.encode ++ bs) = _
    unfold readMem32
    rw [if_neg h4, if_neg hn]
    simp
  | sib32 sc ix b d =>
    refine ⟨d.mode, 4, _, rfl, disp32_mode_ne d, ?_⟩
    have hn : ¬ (d.mode = 0 ∧ b.bits = 5) := by
      rintro ⟨h0, hb⟩
      have := disp32_mode_eq h0
      subst this
      cases b <;> simp [Gpr.bits] at hb hf
    show readSib d.mode (modrm sc.bits ix.bits b.bits :: (d.encode ++ bs)) = _
    simp only [readSib, readByte_cons, andThen_ok, modrm_md, modrm_reg, modrm_rm]
    rw [if_neg hn]
    simp
  | sibNoBase sc ix d =>
    exact ⟨0, 4, _, rfl, by decide, by simp [MemForm.asz, readMem, readMem32, readSib]⟩

/-- A byte r/m operand is read back with its `reg` field. -/
theorem readRm8_encode {z : Size} {rm : Rm8} (h : rm.ok z = true) (reg : BitVec 3) (bs : List Byte) :
    ∃ x tail, readModRM (rm.encode reg ++ bs) = .ok (x, tail) ∧ x.reg = reg ∧ readRm8 z x tail = .ok (rm, bs) := by
  cases rm with
  | reg r => exact ⟨⟨3, reg, r.bits⟩, bs, by simp [Rm8.encode], rfl, by simp [readRm8]⟩
  | mem f =>
    obtain ⟨md, r, tail, he, hm, hr⟩ := readMem_encode (f := f) h reg bs
    exact ⟨⟨md, reg, r⟩, tail, by simp only [Rm8.encode, he, readModRM_modrm], rfl, by unfold readRm8; rw [if_neg hm, hr]; rfl⟩

/-- A 16- or 32-bit r/m operand is read back with its `reg` field. -/
theorem readRmv_encode {z : Size} {rm : Rmv} (h : rm.ok z = true) (reg : BitVec 3) (bs : List Byte) :
    ∃ x tail, readModRM (rm.encode reg ++ bs) = .ok (x, tail) ∧ x.reg = reg ∧ readRmv z x tail = .ok (rm, bs) := by
  cases rm with
  | reg r => exact ⟨⟨3, reg, r.bits⟩, bs, by simp [Rmv.encode], rfl, by simp [readRmv]⟩
  | mem f =>
    obtain ⟨md, r, tail, he, hm, hr⟩ := readMem_encode (f := f) h reg bs
    exact ⟨⟨md, reg, r⟩, tail, by simp only [Rmv.encode, he, readModRM_modrm], rfl, by unfold readRmv; rw [if_neg hm, hr]; rfl⟩

theorem readIz_encode {o : Size} {v : Iz} (h : v.ok o = true) (bs : List Byte) :
    readIz o (v.encode ++ bs) = .ok (v, bs) := by
  cases v <;> cases o <;> simp [Iz.ok] at h <;> simp [Iz.encode, readIz]

theorem readMoffs_encode {z : Size} {a : Moffs} (h : a.ok z = true) (bs : List Byte) :
    readMoffs z (a.encode ++ bs) = .ok (a, bs) := by
  cases a <;> cases z <;> simp [Moffs.ok] at h <;> simp [Moffs.encode, readMoffs]

end Sys2Proof
end

