-- ==== Sys2Proof/Laws/Flags.lean ====
section
/-! SUPPORT. EFLAGS: what a flag write changes, and that every flag computation keeps the fixed bits fixed. -/

namespace Sys2Proof.Machine

theorem Flag.pos_lt (f : Flag) : f.pos < 32 := by cases f <;> decide

theorem Flag.pos_inj {f g : Flag} (h : f.pos = g.pos) : f = g := by cases f <;> cases g <;> first | rfl | cases h

/-- Bit j after `putBit` at k. -/
theorem putBit_getLsbD (e : Word) {k : Nat} (hk : k < 32) (b : Bool) (j : Nat) :
    (putBit e k b).getLsbD j = if j = k then b else e.getLsbD j := by
  unfold putBit
  by_cases hj : j < 32
  · by_cases h : j = k
    · subst h; cases b <;> simp [hj]
    · cases b <;> simp [h, hj]
  · have h : j ≠ k := by omega
    have hz : ∀ v : Word, v.getLsbD j = false := fun v => BitVec.getLsbD_of_ge v j (by omega)
    rw [if_neg h, hz, hz]

/-- A flag write touches its own bit only (10_state.md R33). -/
theorem setFlag_getLsbD (e : Word) (f : Flag) (b : Bool) (j : Nat) :
    (setFlag e f b).getLsbD j = if j = f.pos then b else e.getLsbD j := putBit_getLsbD e f.pos_lt b j

@[simp] theorem getFlag_setFlag_same (e : Word) (f : Flag) (b : Bool) : getFlag (setFlag e f b) f = b := by
  simp [getFlag, setFlag_getLsbD]

theorem getFlag_setFlag_ne (e : Word) {f g : Flag} (b : Bool) (h : g ≠ f) :
    getFlag (setFlag e f b) g = getFlag e g := by
  have : g.pos ≠ f.pos := fun x => h (Flag.pos_inj x)
  simp [getFlag, setFlag_getLsbD, this]

/-- One lemma for any pair of flags, for `simp` to evaluate at the constructors. -/
theorem getFlag_setFlag (e : Word) (f g : Flag) (b : Bool) :
    getFlag (setFlag e f b) g = if g = f then b else getFlag e g := by
  by_cases h : g = f
  · subst h; simp
  · rw [if_neg h, getFlag_setFlag_ne e b h]

/-! The fixed bits (R32, R34). -/

theorem or_and_distrib (x y z : Word) : (x ||| y) &&& z = (x &&& z) ||| (y &&& z) := by
  ext i hi
  simp [Bool.and_or_distrib_right]

theorem eflagsFixed_iff (e : Word) : eflagsFixed e = true ↔ eflagsWrite e = e := by simp [eflagsFixed]

theorem eflagsWrite_or (e t : Word) (h : t &&& 0x00077FD5#32 = t) : eflagsWrite (e ||| t) = eflagsWrite e ||| t := by
  unfold eflagsWrite
  rw [or_and_distrib, h, BitVec.or_assoc, BitVec.or_assoc, BitVec.or_comm t]

theorem eflagsWrite_and (e t : Word) (h : 0x00000002#32 &&& t = 0x00000002#32) :
    eflagsWrite (e &&& t) = eflagsWrite e &&& t := by
  unfold eflagsWrite
  rw [or_and_distrib, h, BitVec.and_assoc, BitVec.and_comm t, ← BitVec.and_assoc]

theorem eflagsWrite_setFlag (e : Word) (f : Flag) (b : Bool) :
    eflagsWrite (setFlag e f b) = setFlag (eflagsWrite e) f b := by
  unfold setFlag putBit
  cases b
  · simpa using eflagsWrite_and e (~~~(BitVec.twoPow 32 f.pos)) (by cases f <;> decide)
  · simpa using eflagsWrite_or e (BitVec.twoPow 32 f.pos) (by cases f <;> decide)

theorem eflagsFixed_setFlag {e : Word} (h : eflagsFixed e = true) (f : Flag) (b : Bool) :
    eflagsFixed (setFlag e f b) = true := by
  rw [eflagsFixed_iff] at h ⊢
  rw [eflagsWrite_setFlag, h]

@[simp] theorem eflagsFixed_eflagsWrite (v : Word) : eflagsFixed (eflagsWrite v) = true := by
  rw [eflagsFixed_iff]
  unfold eflagsWrite
  rw [or_and_distrib, BitVec.and_assoc]
  simp

theorem eflagsFixed_resultFlags {w : Nat} (r : BitVec w) {e : Word} (h : eflagsFixed e = true) :
    eflagsFixed (resultFlags r e) = true :=
  eflagsFixed_setFlag (eflagsFixed_setFlag (eflagsFixed_setFlag h _ _) _ _) _ _

theorem eflagsFixed_arithFlags {w : Nat} (x : Arith w) {e : Word} (h : eflagsFixed e = true) :
    eflagsFixed (arithFlags x e) = true :=
  eflagsFixed_resultFlags _ (eflagsFixed_setFlag (eflagsFixed_setFlag (eflagsFixed_setFlag h _ _) _ _) _ _)

theorem eflagsFixed_incDecFlags {w : Nat} (x : Arith w) {e : Word} (h : eflagsFixed e = true) :
    eflagsFixed (incDecFlags x e) = true :=
  eflagsFixed_resultFlags _ (eflagsFixed_setFlag (eflagsFixed_setFlag h _ _) _ _)

theorem eflagsFixed_logicFlags {w : Nat} (r : BitVec w) {e : Word} (h : eflagsFixed e = true) :
    eflagsFixed (logicFlags r e) = true :=
  eflagsFixed_resultFlags _ (eflagsFixed_setFlag (eflagsFixed_setFlag h _ _) _ _)

theorem eflagsFixed_aluOp {w : Nat} (op : AluOp) (a b : BitVec w) {e : Word} (h : eflagsFixed e = true) :
    eflagsFixed (aluOp op a b e).2 = true := by
  cases op <;> simp only [aluOp] <;> with_reducible
    first
    | exact eflagsFixed_arithFlags _ h
    | exact eflagsFixed_logicFlags _ h

theorem eflagsFixed_incOp {w : Nat} (a : BitVec w) {e : Word} (h : eflagsFixed e = true) :
    eflagsFixed (incOp a e).2 = true := eflagsFixed_incDecFlags _ h

theorem eflagsFixed_decOp {w : Nat} (a : BitVec w) {e : Word} (h : eflagsFixed e = true) :
    eflagsFixed (decOp a e).2 = true := eflagsFixed_incDecFlags _ h

theorem eflagsFixed_shiftFlags {w : Nat} (r : BitVec w) (c : Nat) (cf f : Bool) {e : Word}
    (h : eflagsFixed e = true) : eflagsFixed (shiftFlags r c cf f e) = true := by
  unfold shiftFlags
  apply eflagsFixed_resultFlags
  split
  · exact eflagsFixed_setFlag (eflagsFixed_setFlag h _ _) _ _
  · exact eflagsFixed_setFlag h _ _

theorem eflagsFixed_shlOp {w : Nat} (a : BitVec w) (c : Nat) {e : Word} (h : eflagsFixed e = true) :
    eflagsFixed (shlOp a c e).2 = true := eflagsFixed_shiftFlags _ _ _ _ h

theorem eflagsFixed_shrOp {w : Nat} (a : BitVec w) (c : Nat) {e : Word} (h : eflagsFixed e = true) :
    eflagsFixed (shrOp a c e).2 = true := eflagsFixed_shiftFlags _ _ _ _ h

/-! Which bits a computation leaves alone. -/

/-- A bit that is none of the given flags' own. -/
def otherBit (fs : List Flag) (j : Nat) : Prop := ∀ f ∈ fs, j ≠ f.pos

theorem setFlag_other {e : Word} {f : Flag} {b : Bool} {j : Nat} (h : j ≠ f.pos) :
    (setFlag e f b).getLsbD j = e.getLsbD j := by rw [setFlag_getLsbD, if_neg h]

theorem resultFlags_other {w : Nat} {r : BitVec w} {e : Word} {j : Nat} (h : otherBit [.sf, .zf, .pf] j) :
    (resultFlags r e).getLsbD j = e.getLsbD j := by
  unfold resultFlags
  rw [setFlag_other (h .pf (by simp)), setFlag_other (h .zf (by simp)), setFlag_other (h .sf (by simp))]

theorem arithFlags_other {w : Nat} {x : Arith w} {e : Word} {j : Nat}
    (h : otherBit [.cf, .pf, .af, .zf, .sf, .of] j) : (arithFlags x e).getLsbD j = e.getLsbD j := by
  unfold arithFlags
  rw [resultFlags_other (fun f hf => h f (by revert hf; cases f <;> simp)), setFlag_other (h .af (by simp)),
    setFlag_other (h .of (by simp)), setFlag_other (h .cf (by simp))]

theorem incDecFlags_other {w : Nat} {x : Arith w} {e : Word} {j : Nat}
    (h : otherBit [.pf, .af, .zf, .sf, .of] j) : (incDecFlags x e).getLsbD j = e.getLsbD j := by
  unfold incDecFlags
  rw [resultFlags_other (fun f hf => h f (by revert hf; cases f <;> simp)), setFlag_other (h .af (by simp)),
    setFlag_other (h .of (by simp))]

theorem logicFlags_other {w : Nat} {r : BitVec w} {e : Word} {j : Nat}
    (h : otherBit [.cf, .pf, .zf, .sf, .of] j) : (logicFlags r e).getLsbD j = e.getLsbD j := by
  unfold logicFlags
  rw [resultFlags_other (fun f hf => h f (by revert hf; cases f <;> simp)), setFlag_other (h .of (by simp)),
    setFlag_other (h .cf (by simp))]

end Sys2Proof.Machine
end

