-- ==== Sys2Proof/Laws/Memory.lean ====
section
/-! SUPPORT. Memory: what a read gives after a write, what a write leaves alone, and that the canonical form is kept. -/

namespace Sys2Proof.Machine

/-- The address of byte k + 1 of an access, from byte 1. -/
theorem add_ofNat_succ (la : Word) (k : Nat) : la + BitVec.ofNat 32 (k + 1) = la + 1 + BitVec.ofNat 32 k := by
  rw [BitVec.ofNat_add, BitVec.add_assoc, BitVec.add_comm (BitVec.ofNat 32 k)]; rfl

/-- Bytes of one access shorter than the address space lie at different addresses. -/
theorem add_ofNat_inj (la : Word) {j k : Nat} (hj : j < 2 ^ 32) (hk : k < 2 ^ 32)
    (e : la + BitVec.ofNat 32 j = la + BitVec.ofNat 32 k) : j = k := by
  have := congrArg BitVec.toNat (BitVec.add_right_inj la |>.mp e)
  rwa [BitVec.toNat_ofNat, BitVec.toNat_ofNat, Nat.mod_eq_of_lt hj, Nat.mod_eq_of_lt hk] at this

theorem lookupCell_insertCell_same (a : Nat) (b : Byte) (l : List Host.Cell) (h : ∀ c ∈ l, c.1 ≠ a) :
    lookupCell a (insertCell a b l) = b := by
  induction l with
  | nil => simp [insertCell, lookupCell]
  | cons c l ih =>
    obtain ⟨k, v⟩ := c
    have hk : a ≠ k := fun e => h (k, v) (by simp) e.symm
    have hl : ∀ c ∈ l, c.1 ≠ a := fun c hc => h c (by simp [hc])
    by_cases hlt : a < k
    · simp [insertCell, hlt, lookupCell]
    · simp [insertCell, hlt, lookupCell, hk, ih hl]

theorem lookupCell_insertCell_ne {a x : Nat} (b : Byte) (l : List Host.Cell) (h : x ≠ a) :
    lookupCell x (insertCell a b l) = lookupCell x l := by
  induction l with
  | nil => simp [insertCell, lookupCell, h]
  | cons c l ih =>
    obtain ⟨k, v⟩ := c
    by_cases hlt : a < k
    · simp [insertCell, hlt, lookupCell, h]
    · simp [insertCell, hlt, lookupCell, ih]

theorem lookupCell_filter_same (a : Nat) (l : List Host.Cell) :
    lookupCell a (l.filter fun c => c.1 != a) = Memory.unlisted := by
  induction l with
  | nil => rfl
  | cons c l ih =>
    obtain ⟨k, v⟩ := c
    by_cases hk : k = a
    · simp [List.filter, hk]; simpa using ih
    · have hk' : a ≠ k := fun e => hk e.symm
      have hb : (k != a) = true := by simpa using hk
      simp only [List.filter, hb, lookupCell, hk', if_false]; exact ih

theorem lookupCell_filter_ne {a x : Nat} (l : List Host.Cell) (h : x ≠ a) :
    lookupCell x (l.filter fun c => c.1 != a) = lookupCell x l := by
  induction l with
  | nil => rfl
  | cons c l ih =>
    obtain ⟨k, v⟩ := c
    by_cases hk : k = a
    · subst hk
      simp [List.filter, lookupCell, h]; simpa using ih
    · have hb : (k != a) = true := by simpa using hk
      simp only [List.filter, hb, lookupCell, ih]

/-- A byte reads as what was last written to it (20_memory.md R85). -/
@[simp] theorem read_write_same (m : Memory) (la : Word) (b : Byte) : (m.write la b).read la = b := by
  unfold Memory.write Memory.read
  split
  · next h => simp only [h]; exact lookupCell_filter_same _ _
  · exact lookupCell_insertCell_same _ _ _ (by simp)

/-- A write leaves every other byte alone. -/
theorem read_write_ne (m : Memory) {la x : Word} (b : Byte) (h : x ≠ la) : (m.write la b).read x = m.read x := by
  have hn : x.toNat ≠ la.toNat := fun e => h (BitVec.eq_of_toNat_eq e)
  unfold Memory.write Memory.read
  simp only
  split
  · exact lookupCell_filter_ne _ hn
  · rw [lookupCell_insertCell_ne _ _ hn]; exact lookupCell_filter_ne _ hn

@[simp] theorem readFrom_length (m : Memory) (la : Word) (n : Nat) : (m.readFrom la n).length = n := by
  induction n generalizing la with
  | zero => rfl
  | succ n ih => simp [Memory.readFrom, ih]

@[simp] theorem segRead_length (m : Memory) (g : SegReg) (off : Word) (n : Nat) (z : Size) :
    (segRead m g off n z).length = n := readFrom_length _ _ _

/-- Byte k of a read is the byte at `la + k` (R72). -/
theorem readFrom_getElem? (m : Memory) (la : Word) {n k : Nat} (h : k < n) :
    (m.readFrom la n)[k]? = some (m.read (la + BitVec.ofNat 32 k)) := by
  induction n generalizing la k with
  | zero => omega
  | succ n ih =>
    cases k with
    | zero => simp [Memory.readFrom]
    | succ k =>
      simp only [Memory.readFrom, List.getElem?_cons_succ]
      rw [ih (la + 1) (by omega), add_ofNat_succ]

theorem readFrom_congr {m m' : Memory} {la : Word} {n : Nat}
    (h : ∀ k, k < n → m.read (la + BitVec.ofNat 32 k) = m'.read (la + BitVec.ofNat 32 k)) :
    m.readFrom la n = m'.readFrom la n := by
  apply List.ext_getElem? 
  intro k
  by_cases hk : k < n
  · rw [readFrom_getElem? m la hk, readFrom_getElem? m' la hk, h k hk]
  · have h1 := readFrom_length m la n
    have h2 := readFrom_length m' la n
    rw [List.getElem?_eq_none (by omega), List.getElem?_eq_none (by omega)]

/-- Addresses the stored bytes do not cover read as before (R72). -/
theorem read_writeFrom_of_not_mem (m : Memory) (la x : Word) (bs : List Byte)
    (h : ∀ k, k < bs.length → x ≠ la + BitVec.ofNat 32 k) : (m.writeFrom la bs).read x = m.read x := by
  induction bs generalizing m la with
  | nil => rfl
  | cons b bs ih =>
    simp only [Memory.writeFrom]
    rw [ih (m.write la b) (la + 1)]
    · exact read_write_ne _ _ (by simpa using h 0 (by simp))
    · intro k hk e
      apply h (k + 1) (by simpa using hk)
      rw [e, add_ofNat_succ]

/-- Byte k of what was stored is read back at `la + k`, for stores shorter than the address space. -/
theorem read_writeFrom (m : Memory) (la : Word) (bs : List Byte) (hl : bs.length ≤ 2 ^ 32) {k : Nat}
    (hk : k < bs.length) : (m.writeFrom la bs).read (la + BitVec.ofNat 32 k) = bs[k] := by
  induction bs generalizing m la k with
  | nil => simp at hk
  | cons b bs ih =>
    simp only [Memory.writeFrom]
    cases k with
    | zero =>
      rw [read_writeFrom_of_not_mem]
      · simp
      · intro j hj e
        rw [← add_ofNat_succ] at e
        simp only [List.length_cons] at hl
        have := add_ofNat_inj la (by omega) (by omega) e
        omega
    | succ k =>
      rw [add_ofNat_succ, ih (m.write la b) (la + 1) (by simp at hl; omega) (by simpa using hk)]
      simp

/-- Reading what was stored gives it back (R72, R85). -/
theorem readFrom_writeFrom (m : Memory) (la : Word) (bs : List Byte) (hl : bs.length ≤ 2 ^ 32) :
    (m.writeFrom la bs).readFrom la bs.length = bs := by
  apply List.ext_getElem?
  intro k
  by_cases hk : k < bs.length
  · rw [readFrom_getElem? _ _ hk, read_writeFrom m la bs hl hk, List.getElem?_eq_getElem hk]
  · rw [List.getElem?_eq_none (by simpa using hk), List.getElem?_eq_none (by simpa using hk)]

/-! The canonical form. -/

theorem cellsOk_mono {lo lo' : Nat} (h : lo' ≤ lo) {l : List Host.Cell} (hl : cellsOk lo l = true) :
    cellsOk lo' l = true := by
  cases l with
  | nil => rfl
  | cons c l =>
    simp only [cellsOk, Bool.and_eq_true, decide_eq_true_eq] at hl ⊢
    exact ⟨⟨⟨by omega, hl.1.1.2⟩, hl.1.2⟩, hl.2⟩

theorem cellsOk_filter (p : Host.Cell → Bool) {lo : Nat} {l : List Host.Cell} (h : cellsOk lo l = true) :
    cellsOk lo (l.filter p) = true := by
  induction l generalizing lo with
  | nil => rfl
  | cons c l ih =>
    obtain ⟨k, v⟩ := c
    simp only [cellsOk, Bool.and_eq_true, decide_eq_true_eq] at h
    have ht := ih h.2
    by_cases hp : p (k, v)
    · simp only [List.filter, hp, cellsOk, Bool.and_eq_true, decide_eq_true_eq]
      exact ⟨h.1, ht⟩
    · simp only [List.filter, hp]
      exact cellsOk_mono (by omega) ht

theorem cellsOk_insertCell {lo a : Nat} {b : Byte} {l : List Host.Cell} (h : cellsOk lo l = true) (hlo : lo ≤ a)
    (ha : a < 2 ^ 32) (hb : b ≠ Memory.unlisted) (hn : ∀ c ∈ l, c.1 ≠ a) : cellsOk lo (insertCell a b l) = true := by
  induction l generalizing lo with
  | nil =>
    simp only [insertCell, cellsOk, Bool.and_eq_true, decide_eq_true_eq, bne_iff_ne, ne_eq]
    exact ⟨⟨⟨hlo, ha⟩, hb⟩, trivial⟩
  | cons c l ih =>
    obtain ⟨k, v⟩ := c
    have hk : k ≠ a := hn (k, v) (by simp)
    simp only [cellsOk, Bool.and_eq_true, decide_eq_true_eq, bne_iff_ne, ne_eq] at h
    by_cases hlt : a < k
    · simp only [insertCell, hlt, if_true, cellsOk, Bool.and_eq_true, decide_eq_true_eq, bne_iff_ne, ne_eq]
      exact ⟨⟨⟨hlo, ha⟩, hb⟩, ⟨⟨⟨by omega, h.1.1.2⟩, h.1.2⟩, h.2⟩⟩
    · simp only [insertCell, hlt, if_false, cellsOk, Bool.and_eq_true, decide_eq_true_eq, bne_iff_ne, ne_eq]
      exact ⟨h.1, ih h.2 (by omega) (fun c hc => hn c (by simp [hc]))⟩

/-- A byte write keeps the canonical form. -/
theorem wf_write {m : Memory} (h : m.wf = true) (la : Word) (b : Byte) : (m.write la b).wf = true := by
  unfold Memory.wf Memory.write at *
  simp only
  split
  · exact cellsOk_filter _ h
  · next hb => exact cellsOk_insertCell (cellsOk_filter _ h) (by omega) la.isLt hb (by simp)

/-- Every memory operation that writes keeps the canonical form. -/
theorem wf_writeFrom {m : Memory} (h : m.wf = true) (la : Word) (bs : List Byte) : (m.writeFrom la bs).wf = true := by
  induction bs generalizing m la with
  | nil => exact h
  | cons b bs ih => exact ih (wf_write h la b) (la + 1)

theorem wf_segWrite {m : Memory} (h : m.wf = true) (g : SegReg) (off : Word) (bs : List Byte) (z : Size) :
    (segWrite m g off bs z).wf = true := wf_writeFrom h _ _

/-- Memory right after reset is canonical. -/
theorem wf_reset : State.reset.mem.wf = true := rfl

theorem lookupCell_of_lt {a lo : Nat} {l : List Host.Cell} (h : cellsOk lo l = true) (ha : a < lo) :
    lookupCell a l = Memory.unlisted := by
  induction l generalizing lo with
  | nil => rfl
  | cons c l ih =>
    obtain ⟨k, v⟩ := c
    simp only [cellsOk, Bool.and_eq_true, decide_eq_true_eq] at h
    have hk : a ≠ k := by omega
    simp [lookupCell, hk, ih h.2 (by omega)]

/-- Two canonical cell lists that give every address the same byte are one list. -/
theorem cells_ext {lo : Nat} {l l' : List Host.Cell} (h : cellsOk lo l = true) (h' : cellsOk lo l' = true)
    (e : ∀ a, a < 2 ^ 32 → lookupCell a l = lookupCell a l') : l = l' := by
  induction l generalizing lo l' with
  | nil =>
    cases l' with
    | nil => rfl
    | cons c l' =>
      obtain ⟨k, v⟩ := c
      simp only [cellsOk, Bool.and_eq_true, decide_eq_true_eq, bne_iff_ne, ne_eq] at h'
      have := e k h'.1.1.2
      simp [lookupCell] at this
      exact absurd this.symm h'.1.2
  | cons c l ih =>
    obtain ⟨k, v⟩ := c
    have hh := h
    simp only [cellsOk, Bool.and_eq_true, decide_eq_true_eq, bne_iff_ne, ne_eq] at h
    cases l' with
    | nil =>
      have := e k h.1.1.2
      simp [lookupCell] at this
      exact absurd this h.1.2
    | cons c' l' =>
      obtain ⟨k', v'⟩ := c'
      have hh' := h'
      simp only [cellsOk, Bool.and_eq_true, decide_eq_true_eq, bne_iff_ne, ne_eq] at h'
      have hkk : k = k' := by
        rcases Nat.lt_trichotomy k k' with hlt | heq | hgt
        · have := e k h.1.1.2
          rw [lookupCell_of_lt (lo := k + 1) (l := (k', v') :: l')] at this
          · simp [lookupCell] at this; exact absurd this h.1.2
          · simp only [cellsOk, Bool.and_eq_true, decide_eq_true_eq, bne_iff_ne, ne_eq]
            exact ⟨⟨⟨by omega, h'.1.1.2⟩, h'.1.2⟩, h'.2⟩
          · omega
        · exact heq
        · have := e k' h'.1.1.2
          rw [lookupCell_of_lt (lo := k' + 1) (l := (k, v) :: l)] at this
          · simp [lookupCell] at this; exact absurd this.symm h'.1.2
          · simp only [cellsOk, Bool.and_eq_true, decide_eq_true_eq, bne_iff_ne, ne_eq]
            exact ⟨⟨⟨by omega, h.1.1.2⟩, h.1.2⟩, h.2⟩
          · omega
      subst hkk
      have hv : v = v' := by
        have := e k h.1.1.2
        simpa [lookupCell] using this
      subst hv
      congr 1
      apply ih h.2 h'.2
      intro a ha
      by_cases hak : a = k
      · subst hak
        rw [lookupCell_of_lt h.2 (by omega), lookupCell_of_lt h'.2 (by omega)]
      · have := e a ha
        simpa [lookupCell, hak] using this

/-- Canonical memories that read alike everywhere are equal: equal memories are equal data. -/
theorem memory_ext {m m' : Memory} (h : m.wf = true) (h' : m'.wf = true) (e : ∀ la, m.read la = m'.read la) :
    m = m' := by
  cases m with
  | mk l =>
    cases m' with
    | mk l' =>
      congr 1
      refine cells_ext h h' fun a ha => ?_
      have := e (BitVec.ofNat 32 a)
      have hb : (BitVec.ofNat 32 a).toNat = a := by rw [BitVec.toNat_ofNat, Nat.mod_eq_of_lt ha]
      unfold Memory.read at this
      rwa [hb] at this

end Sys2Proof.Machine
end

