-- ==== Sys2Proof/Laws/Registers.lean ====
section
/-! SUPPORT. The register files: what a read gives after a write, and what a register id names. -/

namespace Sys2Proof.Machine

/-! General registers. -/

@[simp] theorem gpr_get_set_same (g : GprFile) (r : Gpr) (v : Word) : (g.set r v).get r = v := by cases r <;> rfl

theorem gpr_get_set_ne (g : GprFile) {r x : Gpr} (v : Word) (h : x ≠ r) : (g.set r v).get x = g.get x := by
  cases r <;> cases x <;> first | rfl | exact absurd rfl h

@[simp] theorem gpr_set_get (g : GprFile) (r : Gpr) : g.set r (g.get r) = g := by cases r <;> rfl

@[simp] theorem gpr_set_set (g : GprFile) (r : Gpr) (v w : Word) : (g.set r v).set r w = g.set r w := by
  cases r <;> rfl

theorem gpr_get16_ne (g : GprFile) {r x : Gpr} (v : Half) (h : x ≠ r) : (g.set16 r v).get x = g.get x :=
  gpr_get_set_ne g _ h

theorem gpr_get8_ne (g : GprFile) {r : Reg8} {x : Gpr} (v : Byte) (h : x ≠ r.cell) : (g.set8 r v).get x = g.get x := by
  unfold GprFile.set8
  split <;> exact gpr_get_set_ne g _ h

/-- The cell after a 16-bit write, bit by bit (10_state.md R24). -/
theorem gpr_set16_bit (g : GprFile) (r : Gpr) (v : Half) (k : Nat) :
    ((g.set16 r v).get r).getLsbD k = if k < 16 then v.getLsbD k else (g.get r).getLsbD k := by
  simp only [GprFile.set16, gpr_get_set_same, BitVec.getLsbD_append, BitVec.getLsbD_extractLsb']
  split
  · rfl
  · by_cases hk : k < 32
    · have h1 : k - 16 < 16 := by omega
      have h2 : 16 + (k - 16) = k := by omega
      simp [h1, h2]
    · rw [BitVec.getLsbD_of_ge (g.get r) k (by omega)]
      have h1 : ¬ k - 16 < 16 := by omega
      simp [h1]

/-- The cell after an 8-bit write, bit by bit (R24). -/
theorem gpr_set8_bit (g : GprFile) (r : Reg8) (v : Byte) (k : Nat) :
    ((g.set8 r v).get r.cell).getLsbD k =
      if r.high then (if 8 ≤ k ∧ k < 16 then v.getLsbD (k - 8) else (g.get r.cell).getLsbD k)
      else (if k < 8 then v.getLsbD k else (g.get r.cell).getLsbD k) := by
  unfold GprFile.set8
  by_cases hh : r.high = true
  · simp only [hh, if_true, gpr_get_set_same, BitVec.getLsbD_append, BitVec.getLsbD_extractLsb']
    by_cases h1 : k < 8
    · have : ¬ (8 ≤ k ∧ k < 16) := by omega
      simp [h1, this]
    · by_cases h2 : k < 16
      · have : k - 8 < 8 := by omega
        simp [h1, h2, this, Nat.le_of_not_lt h1]
      · have h3 : ¬ (8 ≤ k ∧ k < 16) := by omega
        have h4 : ¬ k - 8 < 8 := by omega
        by_cases hk : k < 32
        · have h5 : k - 8 - 8 < 16 := by omega
          have h6 : 16 + (k - 8 - 8) = k := by omega
          simp [h1, h2, h4, h5, h6]
        · rw [BitVec.getLsbD_of_ge (g.get r.cell) k (by omega)]
          have h5 : ¬ k - 8 - 8 < 16 := by omega
          simp [h1, h2, h4, h5]
  · simp only [hh, if_false, gpr_get_set_same, BitVec.getLsbD_append, BitVec.getLsbD_extractLsb', Bool.false_eq_true]
    by_cases h1 : k < 8
    · simp [h1]
    · by_cases hk : k < 32
      · have h5 : k - 8 < 24 := by omega
        have h6 : 8 + (k - 8) = k := by omega
        simp [h1, h5, h6]
      · rw [BitVec.getLsbD_of_ge (g.get r.cell) k (by omega)]
        have h5 : ¬ k - 8 < 24 := by omega
        simp [h1, h5]

@[simp] theorem gpr_get16_set16 (g : GprFile) (r : Gpr) (v : Half) : (g.set16 r v).get16 r = v := by
  apply BitVec.eq_of_getLsbD_eq
  intro k hk
  simp [GprFile.get16, gpr_set16_bit, hk]

@[simp] theorem gpr_get8_set8 (g : GprFile) (r : Reg8) (v : Byte) : (g.set8 r v).get8 r = v := by
  apply BitVec.eq_of_getLsbD_eq
  intro k hk
  unfold GprFile.get8
  by_cases hh : r.high = true
  · have h1 : 8 + k < 16 := by omega
    have h2 : 8 + k - 8 = k := by omega
    simp [hh, gpr_set8_bit, hk, h1, h2]
  · simp [hh, gpr_set8_bit, hk]

/-! The other files. -/

@[simp] theorem seg_get_set_same (f : SegFile) (r : Sreg) (v : SegReg) : (f.set r v).get r = v := by cases r <;> rfl

theorem seg_get_set_ne (f : SegFile) {r x : Sreg} (v : SegReg) (h : x ≠ r) : (f.set r v).get x = f.get x := by
  cases r <;> cases x <;> first | rfl | exact absurd rfl h

@[simp] theorem cr_get_set_same (f : CrFile) (r : Cr) (v : Word) : (f.set r v).get r = v := by cases r <;> rfl

theorem cr_get_set_ne (f : CrFile) {r x : Cr} (v : Word) (h : x ≠ r) : (f.set r v).get x = f.get x := by
  cases r <;> cases x <;> first | rfl | exact absurd rfl h

@[simp] theorem bank_get_set_same (f : Bank8) (n : Fin 8) (v : Word) : (f.set n v).get n = v := by
  match n with
  | 0 => rfl | 1 => rfl | 2 => rfl | 3 => rfl | 4 => rfl | 5 => rfl | 6 => rfl | 7 => rfl

theorem bank_get_set_ne (f : Bank8) {n x : Fin 8} (v : Word) (h : x ≠ n) : (f.set n v).get x = f.get x := by
  match n, x with
  | 0, 0 | 1, 1 | 2, 2 | 3, 3 | 4, 4 | 5, 5 | 6, 6 | 7, 7 => exact absurd rfl h
  | 0, 1 | 0, 2 | 0, 3 | 0, 4 | 0, 5 | 0, 6 | 0, 7 => rfl
  | 1, 0 | 1, 2 | 1, 3 | 1, 4 | 1, 5 | 1, 6 | 1, 7 => rfl
  | 2, 0 | 2, 1 | 2, 3 | 2, 4 | 2, 5 | 2, 6 | 2, 7 => rfl
  | 3, 0 | 3, 1 | 3, 2 | 3, 4 | 3, 5 | 3, 6 | 3, 7 => rfl
  | 4, 0 | 4, 1 | 4, 2 | 4, 3 | 4, 5 | 4, 6 | 4, 7 => rfl
  | 5, 0 | 5, 1 | 5, 2 | 5, 3 | 5, 4 | 5, 6 | 5, 7 => rfl
  | 6, 0 | 6, 1 | 6, 2 | 6, 3 | 6, 4 | 6, 5 | 6, 7 => rfl
  | 7, 0 | 7, 1 | 7, 2 | 7, 3 | 7, 4 | 7, 5 | 7, 6 => rfl

/-! What the ids of a record's operands name (R25). -/

@[simp] theorem ofId_reg8 (r : Reg8) : RegView.ofId r.id = .byte r := by cases r <;> rfl

@[simp] theorem ofId_gpr16 (r : Gpr) : RegView.ofId (r.id .s16) = .half r := by cases r <;> rfl

@[simp] theorem ofId_gpr32 (r : Gpr) : RegView.ofId (r.id .s32) = .full r := by cases r <;> rfl

@[simp] theorem ofId_sreg (r : Sreg) : RegView.ofId r.id = .seg r := by cases r <;> rfl

@[simp] theorem ofId_cr (r : Cr) : RegView.ofId r.id = .cr r := by cases r <;> rfl

@[simp] theorem ofId_dr (n : Fin 8) : RegView.ofId (48 + n.val) = .dr n := by
  match n with
  | 0 => rfl | 1 => rfl | 2 => rfl | 3 => rfl | 4 => rfl | 5 => rfl | 6 => rfl | 7 => rfl

@[simp] theorem ofId_tr (n : Fin 8) : RegView.ofId (35 + n.val) = .tr n := by
  match n with
  | 0 => rfl | 1 => rfl | 2 => rfl | 3 => rfl | 4 => rfl | 5 => rfl | 6 => rfl | 7 => rfl

/-! The descriptor-table images (R49). -/

@[simp] theorem ofImage_image (t : TableReg) : TableReg.ofImage t.image = t := by
  have h1 := t.limit.isLt
  have h2 := t.base.isLt
  cases t with
  | mk base limit =>
    simp only [TableReg.image, TableReg.ofImage, TableReg.mk.injEq] at *
    constructor <;> apply BitVec.eq_of_toNat_eq <;> simp only [BitVec.toNat_ofNat] <;> omega

@[simp] theorem ldt_ofImage_image (t : LdtReg) : LdtReg.ofImage t.image = t := by
  have h1 := t.selector.isLt
  have h2 := t.base.isLt
  have h3 := t.limit.isLt
  cases t with
  | mk selector base limit =>
    simp only [LdtReg.image, LdtReg.ofImage, LdtReg.mk.injEq] at *
    refine ⟨?_, ?_, ?_⟩ <;> apply BitVec.eq_of_toNat_eq <;> simp only [BitVec.toNat_ofNat] <;> omega

end Sys2Proof.Machine
end

