-- ==== Sys2Proof/Laws/State.lean ====
section
/-! SUPPORT. One lemma per field per named update of State. -/

namespace Sys2Proof.Machine

/-! The advance of EIP. -/

@[simp] theorem advance_gpr (s : State) (len : Nat) : (s.advance len).gpr = s.gpr := rfl
@[simp] theorem advance_eip (s : State) (len : Nat) : (s.advance len).eip = nextEip s.seg.cs.operandSize s.eip len := rfl
@[simp] theorem advance_eflags (s : State) (len : Nat) : (s.advance len).eflags = s.eflags := rfl
@[simp] theorem advance_seg (s : State) (len : Nat) : (s.advance len).seg = s.seg := rfl
@[simp] theorem advance_cr (s : State) (len : Nat) : (s.advance len).cr = s.cr := rfl
@[simp] theorem advance_dr (s : State) (len : Nat) : (s.advance len).dr = s.dr := rfl
@[simp] theorem advance_tr (s : State) (len : Nat) : (s.advance len).tr = s.tr := rfl
@[simp] theorem advance_gdtr (s : State) (len : Nat) : (s.advance len).gdtr = s.gdtr := rfl
@[simp] theorem advance_idtr (s : State) (len : Nat) : (s.advance len).idtr = s.idtr := rfl
@[simp] theorem advance_ldtr (s : State) (len : Nat) : (s.advance len).ldtr = s.ldtr := rfl
@[simp] theorem advance_halt (s : State) (len : Nat) : (s.advance len).halt = s.halt := rfl
@[simp] theorem advance_holdIRQ (s : State) (len : Nat) : (s.advance len).holdIRQ = s.holdIRQ := rfl
@[simp] theorem advance_exception (s : State) (len : Nat) : (s.advance len).exception = s.exception := rfl
@[simp] theorem advance_mem (s : State) (len : Nat) : (s.advance len).mem = s.mem := rfl

/-! The boundary. -/

@[simp] theorem boundary_gpr (s : State) : (s.boundary).gpr = s.gpr := rfl
@[simp] theorem boundary_eip (s : State) : (s.boundary).eip = s.eip := rfl
@[simp] theorem boundary_eflags (s : State) : (s.boundary).eflags = s.eflags := rfl
@[simp] theorem boundary_seg (s : State) : (s.boundary).seg = s.seg := rfl
@[simp] theorem boundary_cr (s : State) : (s.boundary).cr = s.cr := rfl
@[simp] theorem boundary_dr (s : State) : (s.boundary).dr = s.dr := rfl
@[simp] theorem boundary_tr (s : State) : (s.boundary).tr = s.tr := rfl
@[simp] theorem boundary_gdtr (s : State) : (s.boundary).gdtr = s.gdtr := rfl
@[simp] theorem boundary_idtr (s : State) : (s.boundary).idtr = s.idtr := rfl
@[simp] theorem boundary_ldtr (s : State) : (s.boundary).ldtr = s.ldtr := rfl
@[simp] theorem boundary_halt (s : State) : (s.boundary).halt = s.halt := rfl
@[simp] theorem boundary_holdIRQ (s : State) : (s.boundary).holdIRQ = false := rfl
@[simp] theorem boundary_exception (s : State) : (s.boundary).exception = s.exception := rfl
@[simp] theorem boundary_mem (s : State) : (s.boundary).mem = s.mem := rfl

/-! The stack pointer. -/

@[simp] theorem setStackPointer_eip (s : State) (t : Word) : (s.setStackPointer t).eip = s.eip := by unfold State.setStackPointer; split <;> rfl
@[simp] theorem setStackPointer_eflags (s : State) (t : Word) : (s.setStackPointer t).eflags = s.eflags := by unfold State.setStackPointer; split <;> rfl
@[simp] theorem setStackPointer_seg (s : State) (t : Word) : (s.setStackPointer t).seg = s.seg := by unfold State.setStackPointer; split <;> rfl
@[simp] theorem setStackPointer_cr (s : State) (t : Word) : (s.setStackPointer t).cr = s.cr := by unfold State.setStackPointer; split <;> rfl
@[simp] theorem setStackPointer_dr (s : State) (t : Word) : (s.setStackPointer t).dr = s.dr := by unfold State.setStackPointer; split <;> rfl
@[simp] theorem setStackPointer_tr (s : State) (t : Word) : (s.setStackPointer t).tr = s.tr := by unfold State.setStackPointer; split <;> rfl
@[simp] theorem setStackPointer_gdtr (s : State) (t : Word) : (s.setStackPointer t).gdtr = s.gdtr := by unfold State.setStackPointer; split <;> rfl
@[simp] theorem setStackPointer_idtr (s : State) (t : Word) : (s.setStackPointer t).idtr = s.idtr := by unfold State.setStackPointer; split <;> rfl
@[simp] theorem setStackPointer_ldtr (s : State) (t : Word) : (s.setStackPointer t).ldtr = s.ldtr := by unfold State.setStackPointer; split <;> rfl
@[simp] theorem setStackPointer_halt (s : State) (t : Word) : (s.setStackPointer t).halt = s.halt := by unfold State.setStackPointer; split <;> rfl
@[simp] theorem setStackPointer_holdIRQ (s : State) (t : Word) : (s.setStackPointer t).holdIRQ = s.holdIRQ := by unfold State.setStackPointer; split <;> rfl
@[simp] theorem setStackPointer_exception (s : State) (t : Word) : (s.setStackPointer t).exception = s.exception := by unfold State.setStackPointer; split <;> rfl
@[simp] theorem setStackPointer_mem (s : State) (t : Word) : (s.setStackPointer t).mem = s.mem := by unfold State.setStackPointer; split <;> rfl

@[simp] theorem setStackPointer_gpr16 (s : State) (t : Word) (h : s.seg.ss.addressSize = .s16) :
    (s.setStackPointer t).gpr = s.gpr.set16 .esp (t.extractLsb' 0 16) := by
  unfold State.setStackPointer; simp [h]

@[simp] theorem setStackPointer_gpr32 (s : State) (t : Word) (h : s.seg.ss.addressSize = .s32) :
    (s.setStackPointer t).gpr = s.gpr.set .esp t := by
  unfold State.setStackPointer; simp [h]

/-! Push and Pop. -/

@[simp] theorem push_eip (s : State) (n : Nat) (v : List Byte) : (s.push n v).eip = s.eip := by simp [State.push]
@[simp] theorem push_eflags (s : State) (n : Nat) (v : List Byte) : (s.push n v).eflags = s.eflags := by simp [State.push]
@[simp] theorem push_seg (s : State) (n : Nat) (v : List Byte) : (s.push n v).seg = s.seg := by simp [State.push]
@[simp] theorem push_cr (s : State) (n : Nat) (v : List Byte) : (s.push n v).cr = s.cr := by simp [State.push]
@[simp] theorem push_dr (s : State) (n : Nat) (v : List Byte) : (s.push n v).dr = s.dr := by simp [State.push]
@[simp] theorem push_tr (s : State) (n : Nat) (v : List Byte) : (s.push n v).tr = s.tr := by simp [State.push]
@[simp] theorem push_gdtr (s : State) (n : Nat) (v : List Byte) : (s.push n v).gdtr = s.gdtr := by simp [State.push]
@[simp] theorem push_idtr (s : State) (n : Nat) (v : List Byte) : (s.push n v).idtr = s.idtr := by simp [State.push]
@[simp] theorem push_ldtr (s : State) (n : Nat) (v : List Byte) : (s.push n v).ldtr = s.ldtr := by simp [State.push]
@[simp] theorem push_halt (s : State) (n : Nat) (v : List Byte) : (s.push n v).halt = s.halt := by simp [State.push]
@[simp] theorem push_holdIRQ (s : State) (n : Nat) (v : List Byte) : (s.push n v).holdIRQ = s.holdIRQ := by simp [State.push]
@[simp] theorem push_exception (s : State) (n : Nat) (v : List Byte) : (s.push n v).exception = s.exception := by simp [State.push]
@[simp] theorem push_mem (s : State) (n : Nat) (v : List Byte) : (s.push n v).mem = segWrite s.mem s.seg.ss (s.stackPointerPlus (-(BitVec.ofNat 32 n))) (resize n v) s.seg.ss.addressSize := by simp [State.push]

@[simp] theorem pop_eip (s : State) (n : Nat) : ((s.pop n).2).eip = s.eip := by simp [State.pop]
@[simp] theorem pop_eflags (s : State) (n : Nat) : ((s.pop n).2).eflags = s.eflags := by simp [State.pop]
@[simp] theorem pop_seg (s : State) (n : Nat) : ((s.pop n).2).seg = s.seg := by simp [State.pop]
@[simp] theorem pop_cr (s : State) (n : Nat) : ((s.pop n).2).cr = s.cr := by simp [State.pop]
@[simp] theorem pop_dr (s : State) (n : Nat) : ((s.pop n).2).dr = s.dr := by simp [State.pop]
@[simp] theorem pop_tr (s : State) (n : Nat) : ((s.pop n).2).tr = s.tr := by simp [State.pop]
@[simp] theorem pop_gdtr (s : State) (n : Nat) : ((s.pop n).2).gdtr = s.gdtr := by simp [State.pop]
@[simp] theorem pop_idtr (s : State) (n : Nat) : ((s.pop n).2).idtr = s.idtr := by simp [State.pop]
@[simp] theorem pop_ldtr (s : State) (n : Nat) : ((s.pop n).2).ldtr = s.ldtr := by simp [State.pop]
@[simp] theorem pop_halt (s : State) (n : Nat) : ((s.pop n).2).halt = s.halt := by simp [State.pop]
@[simp] theorem pop_holdIRQ (s : State) (n : Nat) : ((s.pop n).2).holdIRQ = s.holdIRQ := by simp [State.pop]
@[simp] theorem pop_exception (s : State) (n : Nat) : ((s.pop n).2).exception = s.exception := by simp [State.pop]
@[simp] theorem pop_mem (s : State) (n : Nat) : ((s.pop n).2).mem = s.mem := by simp [State.pop]

@[simp] theorem pop_value (s : State) (n : Nat) :
    (s.pop n).1 = segRead s.mem s.seg.ss s.stackPointer n s.seg.ss.addressSize := rfl

/-! Code mode follows CS only. -/

@[simp] theorem codeMode_advance (s : State) (len : Nat) : (s.advance len).codeMode = s.codeMode := rfl

@[simp] theorem codeMode_boundary (s : State) : s.boundary.codeMode = s.codeMode := rfl

@[simp] theorem boundary_fetch (s : State) : s.boundary.fetch = s.fetch := rfl

/-- A state at whose boundary no hold is up is not changed there. -/
theorem boundary_eq_self {s : State} (h : s.holdIRQ = false) : s.boundary = s := by
  cases s; simp_all [State.boundary]

end Sys2Proof.Machine
end

