-- ==== Sys2Proof/Laws/Ops.lean ====
section
/-! SUPPORT. What each shared operation can answer, said once: segment loads, register writes, Evaluate, Store, the end of a step. -/

namespace Sys2Proof.Machine

/-! Segment loads (41_segmentation.md R140 to R147). -/

theorem resolve_real {s : State} (h : s.pe = false) (sel : Half) : s.resolve sel = .ok (realSegment sel) := by
  simp [State.resolve, h]

theorem resolve_ldt {s : State} (h : s.pe = true) {sel : Half} (ti : sel.getLsbD 2 = true) :
    s.resolve sel = .error (.unsupportedFeature .ldtSelector sel) := by simp [State.resolve, h, ti]

theorem resolve_gdt {s : State} (h : s.pe = true) {sel : Half} (ti : sel.getLsbD 2 = false) :
    s.resolve sel = .ok (protectedSegment sel (valueOf 64 (s.mem.readFrom (s.descriptorAddress sel) 8))) := by
  simp only [State.resolve, h, ti]; rfl

/-- The one way a load fails. -/
theorem resolve_error {s : State} {sel : Half} {e : Fault} (h : s.resolve sel = .error e) :
    s.pe = true ∧ sel.getLsbD 2 = true ∧ e = .unsupportedFeature .ldtSelector sel := by
  unfold State.resolve at h
  split at h
  · next hp =>
    split at h
    · next ht => cases h; exact ⟨hp, ht, rfl⟩
    · cases h
  · cases h

/-- Whatever a load resolves to, its selector is the one loaded and its sizes agree. -/
theorem resolve_ok {s : State} {sel : Half} {g : SegReg} (h : s.resolve sel = .ok g) :
    g.selector = sel ∧ g.sizesAgree = true := by
  unfold State.resolve at h
  split at h
  · split at h
    · cases h
    · cases h; exact ⟨rfl, by simp [SegReg.sizesAgree, protectedSegment]⟩
  · cases h; exact ⟨rfl, rfl⟩

theorem loadSegment_ok {s t : State} {r : Sreg} {sel : Half} (h : s.loadSegment r sel = .ok t) :
    ∃ g, s.resolve sel = .ok g ∧ t = { s with seg := s.seg.set r g, holdIRQ := s.holdIRQ || r == .ss } := by
  unfold State.loadSegment at h
  split at h
  · cases h
  · next g hg => cases h; exact ⟨g, hg, rfl⟩

theorem loadSegment_error {s : State} {r : Sreg} {sel : Half} {e : Fault} (h : s.loadSegment r sel = .error e) :
    s.resolve sel = .error e := by
  unfold State.loadSegment at h
  split at h
  · next e' he => cases h; exact he
  · cases h

/-! Register writes (10_state.md R29). -/

/-- A register write fails only as a segment load. -/
theorem writeView_error {s : State} {x : RegView} {v : Nat} {e : Fault} (h : s.writeView x v = .error e) :
    ∃ r, x = .seg r ∧ s.resolve (BitVec.ofNat 16 v) = .error e := by
  cases x with
  | seg r => exact ⟨r, rfl, loadSegment_error h⟩
  | absent | byte _ | half _ | full _ | eip | eflags | gdtr | ldtr | tr _ | idtr | cr _ | dr _ => cases h

/-- What no register write touches. -/
theorem writeView_keeps {s t : State} {x : RegView} {v : Nat} (h : s.writeView x v = .ok t) :
    t.mem = s.mem ∧ t.halt = s.halt ∧ t.exception = s.exception := by
  cases x with
  | seg r => obtain ⟨g, -, rfl⟩ := loadSegment_ok h; exact ⟨rfl, rfl, rfl⟩
  | absent | byte _ | half _ | full _ | eip | eflags | gdtr | ldtr | tr _ | idtr | cr _ | dr _ =>
    cases h; exact ⟨rfl, rfl, rfl⟩

theorem writeRegister_error {s : State} {id v : Nat} {e : Fault} (h : s.writeRegister id v = .error e) :
    ∃ r, RegView.ofId id = .seg r ∧ s.resolve (BitVec.ofNat 16 v) = .error e := writeView_error h

/-! Evaluate and Store (42_operands_move.md R160 to R166). -/

/-- Evaluate fails for an operand of undefined kind only. -/
theorem evaluate_error {s : State} {g : Option Sreg} {op : Operand} {n : Nat} {e : Fault}
    (h : s.evaluate g op n = .error e) : op = .undefinedKind ∧ e = .invalidOperand .undefinedKind .undefinedKind := by
  cases op <;> simp [State.evaluate] at h ⊢
  exact h.symm

/-- Evaluate gives as many bytes as were asked for, except of a far address. -/
theorem evaluate_length {s : State} {g : Option Sreg} {op : Operand} {n : Nat} {v : OperandValue}
    (h : s.evaluate g op n = .ok v) (hf : ∀ a b k, op ≠ .far a b k) : v.length = n := by
  cases op with
  | reg _ => cases h; simp
  | mem _ _ _ _ _ => cases h; simp
  | imm _ _ => cases h; simp [immBytes]
  | far a b k => exact absurd rfl (hf a b k)
  | undefinedKind => cases h

theorem store_mem {s : State} (g : Option Sreg) (base index : Option Nat) (scale : Nat) (disp : Word) (z : Size)
    (v : OperandValue) : s.store g (.mem base index scale disp z) v =
      .ok { s with mem := s.mem.writeFrom (s.operandAddress g base index scale disp z) v } := rfl

theorem store_reg {s : State} (g : Option Sreg) (id : Nat) (v : OperandValue) :
    s.store g (.reg id) v = s.writeView (RegView.ofId id) (leNat v) := rfl

/-- What no Store touches. -/
theorem store_keeps {s t : State} {g : Option Sreg} {op : Operand} {v : OperandValue} (h : s.store g op v = .ok t) :
    t.halt = s.halt ∧ t.exception = s.exception := by
  cases op with
  | reg id => exact (writeView_keeps h).2
  | mem _ _ _ _ _ => cases h; exact ⟨rfl, rfl⟩
  | imm _ _ | far _ _ _ | undefinedKind => cases h

/-- A Store keeps memory canonical. -/
theorem store_wf {s t : State} {g : Option Sreg} {op : Operand} {v : OperandValue} (hs : s.mem.wf = true)
    (h : s.store g op v = .ok t) : t.mem.wf = true := by
  cases op with
  | reg id => rw [(writeView_keeps h).1]; exact hs
  | mem _ _ _ _ _ => cases h; exact wf_writeFrom hs _ _
  | imm _ _ | far _ _ _ | undefinedKind => cases h

/-! The end of a step (60_exceptions.md R236). -/

theorem complete_next {n : Nat} {x : Except Fault State} {t : State} :
    complete n x = .next t ↔ ∃ u, x = .ok u ∧ u.advance n = t := by
  cases x <;> simp [complete]

theorem complete_fault {n : Nat} {x : Except Fault State} {e : Fault} :
    complete n x = .fault e ↔ x = .error e := by
  cases x <;> simp [complete]

theorem complete_not_refused {n : Nat} {x : Except Fault State} {q : Refusal} : complete n x ≠ .refused q := by
  cases x <;> simp [complete]

/-! The stack primitives (45_stack.md R215 to R217). -/

theorem pop_length (s : State) (n : Nat) : (s.pop n).1.length = n := by simp [State.pop]

theorem push_wf {s : State} (h : s.mem.wf = true) (n : Nat) (v : List Byte) : (s.push n v).mem.wf = true := by
  rw [push_mem]; exact wf_segWrite h _ _ _ _

/-- The pointer just set is the one in use, once it is wrapped. -/
theorem stackPointer_setStackPointer (s : State) (t : Word) : (s.setStackPointer t).stackPointer =
    match s.seg.ss.addressSize with
    | .s16 => t &&& 0x0000FFFF#32
    | .s32 => t := by
  cases h : s.seg.ss.addressSize with
  | s16 =>
    simp only [State.stackPointer, State.setStackPointer, h]
    apply BitVec.eq_of_getLsbD_eq
    intro k hk
    have e := gpr_set16_bit s.gpr .esp (t.extractLsb' 0 16) k
    change ((s.gpr.set16 .esp (t.extractLsb' 0 16)).esp).getLsbD k = _ at e
    have m : (0x0000FFFF#32).getLsbD k = decide (k < 16) := by
      interval_cases k <;> rfl
    rw [BitVec.getLsbD_and, BitVec.getLsbD_and, e, m]
    by_cases h16 : k < 16 <;> simp [h16]
  | s32 => simp [State.stackPointer, State.setStackPointer, h, GprFile.set]

end Sys2Proof.Machine
end

