-- ==== Sys2Proof/Laws/Exec.lean ====
section
/-! SUPPORT. Every meaning is the engine's run of the record it decodes to; what a run of a record can answer. -/

namespace Sys2Proof.Machine

/-- Each arm of `exec` runs the record of its instruction. -/
theorem exec_eq_runRecord (i : Instr) (s : State) : exec i s = runRecord (Instr.record s.codeMode {} i) s := by
  cases i <;> rfl

/-- What a record does before EIP moves past it. -/
def recordStep (r : Record) (s : State) : Except Fault State :=
  match r.op with
  | .mov => movStep r s
  | .add => aluStep .add r s
  | .or => aluStep .or r s
  | .adc => aluStep .adc r s
  | .sbb => aluStep .sbb r s
  | .and => aluStep .and r s
  | .sub => aluStep .sub r s
  | .xor => aluStep .xor r s
  | .inc => incDecStep (fun _ a e => incOp a e) r s
  | .dec => incDecStep (fun _ a e => decOp a e) r s
  | .shl => shiftStep (fun _ a c e => shlOp a c e) r s
  | .shr => shiftStep (fun _ a c e => shrOp a c e) r s
  | .push => pushStep r s
  | .pop => popStep r s
  | .lgdt => lgdtStep r s
  | .lidt => lidtStep r s

theorem runRecord_eq_complete (r : Record) (s : State) : runRecord r s = complete r.len (recordStep r s) := by
  unfold runRecord recordStep
  cases r.op <;> rfl

/-- No meaning refuses (30_encoding.md R118: every row has its effect). -/
theorem exec_not_refused (i : Instr) (s : State) (q : Refusal) : exec i s ≠ .refused q := by
  rw [exec_eq_runRecord, runRecord_eq_complete]
  exact complete_not_refused

/-- What an instruction can answer next. -/
theorem exec_next {i : Instr} {s t : State} (h : exec i s = .next t) :
    ∃ u, recordStep (Instr.record s.codeMode {} i) s = .ok u ∧
      u.advance (Instr.record s.codeMode {} i).len = t := by
  rw [exec_eq_runRecord, runRecord_eq_complete] at h
  exact complete_next.1 h

theorem aluStep_ok {op : AluOp} {r : Record} {s t : State} (h : aluStep op r s = .ok t) :
    ∃ a b u, s.evaluate r.seg (r.operand 0) r.osz.bytes = .ok a ∧ s.evaluate r.seg (r.operand 1) r.osz.bytes = .ok b ∧
      s.store r.seg (r.operand 0)
        (bytesOf r.osz.bytes (aluOp op (valueOf r.osz.bits a) (valueOf r.osz.bits b) s.eflags).1.toNat) = .ok u ∧
      t = { u with eflags := (aluOp op (valueOf r.osz.bits a) (valueOf r.osz.bits b) s.eflags).2 } := by
  unfold aluStep at h
  cases ha : s.evaluate r.seg (r.operand 0) r.osz.bytes with
  | error e => rw [ha] at h; cases h
  | ok a =>
    cases hb : s.evaluate r.seg (r.operand 1) r.osz.bytes with
    | error e => rw [ha, hb] at h; cases h
    | ok b =>
      rw [ha, hb] at h
      simp only [bind, Except.bind] at h
      split at h
      · cases h
      · next u hu => cases h; exact ⟨a, b, u, rfl, rfl, hu, rfl⟩

theorem incDecStep_ok {f : (w : Nat) → BitVec w → Word → BitVec w × Word} {r : Record} {s t : State}
    (h : incDecStep f r s = .ok t) :
    ∃ a u, s.evaluate r.seg (r.operand 0) r.osz.bytes = .ok a ∧
      s.store r.seg (r.operand 0)
        (bytesOf r.osz.bytes (f r.osz.bits (valueOf r.osz.bits a) s.eflags).1.toNat) = .ok u ∧
      t = { u with eflags := (f r.osz.bits (valueOf r.osz.bits a) s.eflags).2 } := by
  unfold incDecStep at h
  cases ha : s.evaluate r.seg (r.operand 0) r.osz.bytes with
  | error e => rw [ha] at h; cases h
  | ok a =>
    rw [ha] at h
    simp only [bind, Except.bind] at h
    split at h
    · cases h
    · next u hu => cases h; exact ⟨a, u, rfl, hu, rfl⟩

/-- A shift either has a masked count of zero and changes nothing, or stores its result and writes its flags. -/
theorem shiftStep_ok {f : (w : Nat) → BitVec w → Nat → Word → BitVec w × Word} {r : Record} {s t : State}
    (h : shiftStep f r s = .ok t) :
    ∃ a c, s.evaluate r.seg (r.operand 0) r.osz.bytes = .ok a ∧ s.evaluate r.seg (r.operand 1) 1 = .ok c ∧
      ((shiftCount (valueOf 8 c) = 0 ∧ t = s) ∨
       (shiftCount (valueOf 8 c) ≠ 0 ∧ ∃ u,
        s.store r.seg (r.operand 0) (bytesOf r.osz.bytes
          (f r.osz.bits (valueOf r.osz.bits a) (shiftCount (valueOf 8 c)) s.eflags).1.toNat) = .ok u ∧
        t = { u with eflags := (f r.osz.bits (valueOf r.osz.bits a) (shiftCount (valueOf 8 c)) s.eflags).2 })) := by
  unfold shiftStep at h
  cases ha : s.evaluate r.seg (r.operand 0) r.osz.bytes with
  | error e => rw [ha] at h; cases h
  | ok a =>
    cases hc : s.evaluate r.seg (r.operand 1) 1 with
    | error e => rw [ha, hc] at h; cases h
    | ok c =>
      rw [ha, hc] at h
      simp only [bind, Except.bind] at h
      refine ⟨a, c, rfl, rfl, ?_⟩
      split at h
      · next h0 => cases h; exact .inl ⟨h0, rfl⟩
      · next h0 =>
        split at h
        · cases h
        · next u hu => cases h; exact .inr ⟨h0, u, hu, rfl⟩

theorem movStep_ok {r : Record} {s t : State} (h : movStep r s = .ok t) :
    ∃ v, s.evaluate r.seg (r.operand 1) (movBytes r) = .ok v ∧ s.store r.seg (r.operand 0) v = .ok t := by
  unfold movStep at h
  cases ha : s.evaluate r.seg (r.operand 1) (movBytes r) with
  | error e => rw [ha] at h; cases h
  | ok v => rw [ha] at h; exact ⟨v, rfl, h⟩

theorem pushStep_ok {r : Record} {s t : State} (h : pushStep r s = .ok t) :
    ∃ v, s.evaluate r.seg (r.operand 0) r.osz.bytes = .ok v ∧ t = s.push r.osz.bytes v := by
  unfold pushStep at h
  cases ha : s.evaluate r.seg (r.operand 0) r.osz.bytes with
  | error e => rw [ha] at h; cases h
  | ok v => rw [ha] at h; cases h; exact ⟨v, rfl, rfl⟩

theorem tableImage_ok {r : Record} {s : State} {t : TableReg} (h : tableImage r s = .ok t) :
    ∃ base index scale disp z, r.operand 0 = .mem base index scale disp z ∧
      t = tableFromImage (s.mem.readFrom (s.operandAddress r.seg base index scale disp z) 6) r.osz := by
  unfold tableImage at h
  split at h
  · next base index scale disp z hop => cases h; exact ⟨base, index, scale, disp, z, hop, rfl⟩
  · cases h

end Sys2Proof.Machine
end

