-- ==== Sys2Proof/Laws/PerInstr.lean ====
section
/-! SUPPORT. Statements about every instruction as syntax, one lemma per constructor: the encoding of an instruction matches its row of the opcode table. -/

namespace Sys2Proof.Laws

/-- A byte string begins with bytes that match a row: `(b & mask) = match`, byte by byte (30_encoding.md R125). -/
def rowMatches : List (Byte × Byte) → List Byte → Bool
  | [], _ => true
  | (v, k) :: row, b :: bs => b &&& k == v && rowMatches row bs
  | _ :: _, [] => false

/-- The row of spec/opcode_table.json an instruction stands for: match and mask, byte by byte. -/
def tableRow : Instr → List (Byte × Byte)
  | .segEs _ => [(0x26#8, 0xFF#8)]
  | .segCs _ => [(0x2E#8, 0xFF#8)]
  | .segSs _ => [(0x36#8, 0xFF#8)]
  | .segDs _ => [(0x3E#8, 0xFF#8)]
  | .segFs _ => [(0x64#8, 0xFF#8)]
  | .segGs _ => [(0x65#8, 0xFF#8)]
  | .opsize _ => [(0x66#8, 0xFF#8)]
  | .adsize _ => [(0x67#8, 0xFF#8)]
  | .lock _ => [(0xF0#8, 0xFF#8)]
  | .repne _ => [(0xF2#8, 0xFF#8)]
  | .rep _ => [(0xF3#8, 0xFF#8)]
  | .movRm8R8 _ _ => [(0x88#8, 0xFF#8)]
  | .movRmvRv _ _ => [(0x89#8, 0xFF#8)]
  | .movR8Rm8 _ _ => [(0x8A#8, 0xFF#8)]
  | .movRvRmv _ _ => [(0x8B#8, 0xFF#8)]
  | .movRm16Sreg _ _ => [(0x8C#8, 0xFF#8)]
  | .movSregRm16 _ _ => [(0x8E#8, 0xFF#8)]
  | .movAlMoffs _ => [(0xA0#8, 0xFF#8)]
  | .movEaxMoffs _ => [(0xA1#8, 0xFF#8)]
  | .movMoffsAl _ => [(0xA2#8, 0xFF#8)]
  | .movMoffsEax _ => [(0xA3#8, 0xFF#8)]
  | .movR8Imm8 _ _ => [(0xB0#8, 0xF8#8)]
  | .movRvImm _ _ => [(0xB8#8, 0xF8#8)]
  | .movRm8Imm8 _ _ => [(0xC6#8, 0xFF#8), (0x00#8, 0x38#8)]
  | .movRmvImm _ _ => [(0xC7#8, 0xFF#8), (0x00#8, 0x38#8)]
  | .movR32Cr _ _ _ => [(0x0F#8, 0xFF#8), (0x20#8, 0xFF#8)]
  | .movCrR32 _ _ _ => [(0x0F#8, 0xFF#8), (0x22#8, 0xFF#8)]
  | .movR32Dr _ _ _ => [(0x0F#8, 0xFF#8), (0x21#8, 0xFF#8)]
  | .movDrR32 _ _ _ => [(0x0F#8, 0xFF#8), (0x23#8, 0xFF#8)]
  | .movR32Tr _ _ _ => [(0x0F#8, 0xFF#8), (0x24#8, 0xFF#8)]
  | .movTrR32 _ _ _ => [(0x0F#8, 0xFF#8), (0x26#8, 0xFF#8)]
  | .addRm8R8 _ _ => [(0x00#8, 0xFF#8)]
  | .addRmvRv _ _ => [(0x01#8, 0xFF#8)]
  | .addR8Rm8 _ _ => [(0x02#8, 0xFF#8)]
  | .addRvRmv _ _ => [(0x03#8, 0xFF#8)]
  | .addAlImm8 _ => [(0x04#8, 0xFF#8)]
  | .addEaxImm _ => [(0x05#8, 0xFF#8)]
  | .addRm8Imm8 _ _ => [(0x80#8, 0xFF#8), (0x00#8, 0x38#8)]
  | .addRmvImm _ _ => [(0x81#8, 0xFF#8), (0x00#8, 0x38#8)]
  | .addRm8Imm8Alias _ _ => [(0x82#8, 0xFF#8), (0x00#8, 0x38#8)]
  | .addRmvImm8 _ _ => [(0x83#8, 0xFF#8), (0x00#8, 0x38#8)]
  | .orRm8R8 _ _ => [(0x08#8, 0xFF#8)]
  | .orRmvRv _ _ => [(0x09#8, 0xFF#8)]
  | .orR8Rm8 _ _ => [(0x0A#8, 0xFF#8)]
  | .orRvRmv _ _ => [(0x0B#8, 0xFF#8)]
  | .orAlImm8 _ => [(0x0C#8, 0xFF#8)]
  | .orEaxImm _ => [(0x0D#8, 0xFF#8)]
  | .orRm8Imm8 _ _ => [(0x80#8, 0xFF#8), (0x08#8, 0x38#8)]
  | .orRmvImm _ _ => [(0x81#8, 0xFF#8), (0x08#8, 0x38#8)]
  | .orRm8Imm8Alias _ _ => [(0x82#8, 0xFF#8), (0x08#8, 0x38#8)]
  | .orRmvImm8 _ _ => [(0x83#8, 0xFF#8), (0x08#8, 0x38#8)]
  | .adcRm8R8 _ _ => [(0x10#8, 0xFF#8)]
  | .adcRmvRv _ _ => [(0x11#8, 0xFF#8)]
  | .adcR8Rm8 _ _ => [(0x12#8, 0xFF#8)]
  | .adcRvRmv _ _ => [(0x13#8, 0xFF#8)]
  | .adcAlImm8 _ => [(0x14#8, 0xFF#8)]
  | .adcEaxImm _ => [(0x15#8, 0xFF#8)]
  | .adcRm8Imm8 _ _ => [(0x80#8, 0xFF#8), (0x10#8, 0x38#8)]
  | .adcRmvImm _ _ => [(0x81#8, 0xFF#8), (0x10#8, 0x38#8)]
  | .adcRm8Imm8Alias _ _ => [(0x82#8, 0xFF#8), (0x10#8, 0x38#8)]
  | .adcRmvImm8 _ _ => [(0x83#8, 0xFF#8), (0x10#8, 0x38#8)]
  | .sbbRm8R8 _ _ => [(0x18#8, 0xFF#8)]
  | .sbbRmvRv _ _ => [(0x19#8, 0xFF#8)]
  | .sbbR8Rm8 _ _ => [(0x1A#8, 0xFF#8)]
  | .sbbRvRmv _ _ => [(0x1B#8, 0xFF#8)]
  | .sbbAlImm8 _ => [(0x1C#8, 0xFF#8)]
  | .sbbEaxImm _ => [(0x1D#8, 0xFF#8)]
  | .sbbRm8Imm8 _ _ => [(0x80#8, 0xFF#8), (0x18#8, 0x38#8)]
  | .sbbRmvImm _ _ => [(0x81#8, 0xFF#8), (0x18#8, 0x38#8)]
  | .sbbRm8Imm8Alias _ _ => [(0x82#8, 0xFF#8), (0x18#8, 0x38#8)]
  | .sbbRmvImm8 _ _ => [(0x83#8, 0xFF#8), (0x18#8, 0x38#8)]
  | .andRm8R8 _ _ => [(0x20#8, 0xFF#8)]
  | .andRmvRv _ _ => [(0x21#8, 0xFF#8)]
  | .andR8Rm8 _ _ => [(0x22#8, 0xFF#8)]
  | .andRvRmv _ _ => [(0x23#8, 0xFF#8)]
  | .andAlImm8 _ => [(0x24#8, 0xFF#8)]
  | .andEaxImm _ => [(0x25#8, 0xFF#8)]
  | .andRm8Imm8 _ _ => [(0x80#8, 0xFF#8), (0x20#8, 0x38#8)]
  | .andRmvImm _ _ => [(0x81#8, 0xFF#8), (0x20#8, 0x38#8)]
  | .andRm8Imm8Alias _ _ => [(0x82#8, 0xFF#8), (0x20#8, 0x38#8)]
  | .andRmvImm8 _ _ => [(0x83#8, 0xFF#8), (0x20#8, 0x38#8)]
  | .subRm8R8 _ _ => [(0x28#8, 0xFF#8)]
  | .subRmvRv _ _ => [(0x29#8, 0xFF#8)]
  | .subR8Rm8 _ _ => [(0x2A#8, 0xFF#8)]
  | .subRvRmv _ _ => [(0x2B#8, 0xFF#8)]
  | .subAlImm8 _ => [(0x2C#8, 0xFF#8)]
  | .subEaxImm _ => [(0x2D#8, 0xFF#8)]
  | .subRm8Imm8 _ _ => [(0x80#8, 0xFF#8), (0x28#8, 0x38#8)]
  | .subRmvImm _ _ => [(0x81#8, 0xFF#8), (0x28#8, 0x38#8)]
  | .subRm8Imm8Alias _ _ => [(0x82#8, 0xFF#8), (0x28#8, 0x38#8)]
  | .subRmvImm8 _ _ => [(0x83#8, 0xFF#8), (0x28#8, 0x38#8)]
  | .xorRm8R8 _ _ => [(0x30#8, 0xFF#8)]
  | .xorRmvRv _ _ => [(0x31#8, 0xFF#8)]
  | .xorR8Rm8 _ _ => [(0x32#8, 0xFF#8)]
  | .xorRvRmv _ _ => [(0x33#8, 0xFF#8)]
  | .xorAlImm8 _ => [(0x34#8, 0xFF#8)]
  | .xorEaxImm _ => [(0x35#8, 0xFF#8)]
  | .xorRm8Imm8 _ _ => [(0x80#8, 0xFF#8), (0x30#8, 0x38#8)]
  | .xorRmvImm _ _ => [(0x81#8, 0xFF#8), (0x30#8, 0x38#8)]
  | .xorRm8Imm8Alias _ _ => [(0x82#8, 0xFF#8), (0x30#8, 0x38#8)]
  | .xorRmvImm8 _ _ => [(0x83#8, 0xFF#8), (0x30#8, 0x38#8)]
  | .incRv _ => [(0x40#8, 0xF8#8)]
  | .incRm8 _ => [(0xFE#8, 0xFF#8), (0x00#8, 0x38#8)]
  | .incRmv _ => [(0xFF#8, 0xFF#8), (0x00#8, 0x38#8)]
  | .decRv _ => [(0x48#8, 0xF8#8)]
  | .decRm8 _ => [(0xFE#8, 0xFF#8), (0x08#8, 0x38#8)]
  | .decRmv _ => [(0xFF#8, 0xFF#8), (0x08#8, 0x38#8)]
  | .shlRm8Imm8 _ _ => [(0xC0#8, 0xFF#8), (0x20#8, 0x38#8)]
  | .shlRmvImm8 _ _ => [(0xC1#8, 0xFF#8), (0x20#8, 0x38#8)]
  | .shlRm8One _ => [(0xD0#8, 0xFF#8), (0x20#8, 0x38#8)]
  | .shlRmvOne _ => [(0xD1#8, 0xFF#8), (0x20#8, 0x38#8)]
  | .shlRm8Cl _ => [(0xD2#8, 0xFF#8), (0x20#8, 0x38#8)]
  | .shlRmvCl _ => [(0xD3#8, 0xFF#8), (0x20#8, 0x38#8)]
  | .shrRm8Imm8 _ _ => [(0xC0#8, 0xFF#8), (0x28#8, 0x38#8)]
  | .shrRmvImm8 _ _ => [(0xC1#8, 0xFF#8), (0x28#8, 0x38#8)]
  | .shrRm8One _ => [(0xD0#8, 0xFF#8), (0x28#8, 0x38#8)]
  | .shrRmvOne _ => [(0xD1#8, 0xFF#8), (0x28#8, 0x38#8)]
  | .shrRm8Cl _ => [(0xD2#8, 0xFF#8), (0x28#8, 0x38#8)]
  | .shrRmvCl _ => [(0xD3#8, 0xFF#8), (0x28#8, 0x38#8)]
  | .pushRv _ => [(0x50#8, 0xF8#8)]
  | .pushRmv _ => [(0xFF#8, 0xFF#8), (0x30#8, 0x38#8)]
  | .pushImm _ => [(0x68#8, 0xFF#8)]
  | .pushImm8 _ => [(0x6A#8, 0xFF#8)]
  | .pushEs => [(0x06#8, 0xFF#8)]
  | .pushCs => [(0x0E#8, 0xFF#8)]
  | .pushSs => [(0x16#8, 0xFF#8)]
  | .pushDs => [(0x1E#8, 0xFF#8)]
  | .pushFs => [(0x0F#8, 0xFF#8), (0xA0#8, 0xFF#8)]
  | .pushGs => [(0x0F#8, 0xFF#8), (0xA8#8, 0xFF#8)]
  | .popRv _ => [(0x58#8, 0xF8#8)]
  | .popRmv _ => [(0x8F#8, 0xFF#8), (0x00#8, 0x38#8)]
  | .popEs => [(0x07#8, 0xFF#8)]
  | .popSs => [(0x17#8, 0xFF#8)]
  | .popDs => [(0x1F#8, 0xFF#8)]
  | .popFs => [(0x0F#8, 0xFF#8), (0xA1#8, 0xFF#8)]
  | .popGs => [(0x0F#8, 0xFF#8), (0xA9#8, 0xFF#8)]
  | .lgdt _ => [(0x0F#8, 0xFF#8), (0x01#8, 0xFF#8), (0x10#8, 0x38#8)]
  | .lidt _ => [(0x0F#8, 0xFF#8), (0x01#8, 0xFF#8), (0x18#8, 0x38#8)]

/-- A register field put under a `+r` opcode leaves the five bits of the row's mask. -/
theorem plusR_masked (b : Byte) (r : BitVec 3) (h : b &&& 0x07#8 = 0#8) : plusR b r &&& 0xF8#8 = b := by
  revert h; revert b r; unfold plusR; decide

/-- A ModRM byte under the mask of a `/digit` row is its digit. -/
theorem modrm_masked (md : BitVec 2) (reg rm : BitVec 3) :
    modrm md reg rm &&& 0x38#8 = (0#2 ++ reg ++ 0#3 : BitVec 8) := by
  revert md reg rm; unfold modrm; decide

/-- The first byte of an encoded memory form is a ModRM byte with the given `reg` field. -/
theorem MemForm.encode_head (f : MemForm) (reg : BitVec 3) :
    ∃ md rm bs, f.encode reg = modrm md reg rm :: bs := by
  cases f <;> exact ⟨_, _, _, rfl⟩

theorem Rm8.encode_head (rm : Rm8) (reg : BitVec 3) : ∃ md x bs, rm.encode reg = modrm md reg x :: bs := by
  cases rm with
  | reg r => exact ⟨_, _, _, rfl⟩
  | mem f => exact MemForm.encode_head f reg

theorem Rmv.encode_head (rm : Rmv) (reg : BitVec 3) : ∃ md x bs, rm.encode reg = modrm md reg x :: bs := by
  cases rm with
  | reg r => exact ⟨_, _, _, rfl⟩
  | mem f => exact MemForm.encode_head f reg

/-- A `+r` row matches its opcode with a register field. -/
theorem rowMatches_plusR (b : Byte) (r : BitVec 3) (bs : List Byte) (h : b &&& 0x07#8 = 0#8) :
    rowMatches [(b, 0xF8#8)] (plusR b r :: bs) = true := by
  simp [rowMatches, plusR_masked b r h]

/-- A `/digit` row matches its opcode followed by an r/m operand with that digit. -/
theorem rowMatches_digit (op : Byte) (reg : BitVec 3) (dg : Byte) {enc : List Byte} (tail : List Byte)
    (h : ∃ md x bs, enc = modrm md reg x :: bs) (hd : (0#2 ++ reg ++ 0#3 : BitVec 8) = dg) :
    rowMatches [(op, 0xFF#8), (dg, 0x38#8)] (op :: (enc ++ tail)) = true := by
  obtain ⟨md, x, bs, rfl⟩ := h
  have h1 : op &&& 0xFF#8 = op := by revert op; decide
  simp [rowMatches, modrm_masked, hd, h1]

/-- The same without an immediate. -/
theorem rowMatches_digit' (op : Byte) (reg : BitVec 3) (dg : Byte) {enc : List Byte}
    (h : ∃ md x bs, enc = modrm md reg x :: bs) (hd : (0#2 ++ reg ++ 0#3 : BitVec 8) = dg) :
    rowMatches [(op, 0xFF#8), (dg, 0x38#8)] (op :: enc) = true := by
  have h2 := rowMatches_digit op reg dg [] h hd
  rwa [List.append_nil] at h2

/-- The same after the escape byte. -/
theorem rowMatches_escape (op : Byte) (reg : BitVec 3) (dg : Byte) {enc : List Byte}
    (h : ∃ md x bs, enc = modrm md reg x :: bs) (hd : (0#2 ++ reg ++ 0#3 : BitVec 8) = dg) :
    rowMatches [(0x0F#8, 0xFF#8), (op, 0xFF#8), (dg, 0x38#8)] (0x0F#8 :: op :: enc) = true := by
  rw [rowMatches, rowMatches_digit' op reg dg h hd]
  rfl

/-- Every instruction's encoding begins with bytes that match its row of the opcode table. -/
def RowEncoding.Statement (i : Instr) : Prop := rowMatches (tableRow i) i.encode = true

theorem RowEncoding.segEs (i : Instr) : RowEncoding.Statement (.segEs i) := rfl

theorem RowEncoding.segCs (i : Instr) : RowEncoding.Statement (.segCs i) := rfl

theorem RowEncoding.segSs (i : Instr) : RowEncoding.Statement (.segSs i) := rfl

theorem RowEncoding.segDs (i : Instr) : RowEncoding.Statement (.segDs i) := rfl

theorem RowEncoding.segFs (i : Instr) : RowEncoding.Statement (.segFs i) := rfl

theorem RowEncoding.segGs (i : Instr) : RowEncoding.Statement (.segGs i) := rfl

theorem RowEncoding.opsize (i : Instr) : RowEncoding.Statement (.opsize i) := rfl

theorem RowEncoding.adsize (i : Instr) : RowEncoding.Statement (.adsize i) := rfl

theorem RowEncoding.lock (i : Instr) : RowEncoding.Statement (.lock i) := rfl

theorem RowEncoding.repne (i : Instr) : RowEncoding.Statement (.repne i) := rfl

theorem RowEncoding.rep (i : Instr) : RowEncoding.Statement (.rep i) := rfl

theorem RowEncoding.movRm8R8 (rm : Rm8) (r : Reg8) : RowEncoding.Statement (.movRm8R8 rm r) := rfl

theorem RowEncoding.movRmvRv (rm : Rmv) (r : Gpr) : RowEncoding.Statement (.movRmvRv rm r) := rfl

theorem RowEncoding.movR8Rm8 (r : Reg8) (rm : Rm8) : RowEncoding.Statement (.movR8Rm8 r rm) := rfl

theorem RowEncoding.movRvRmv (r : Gpr) (rm : Rmv) : RowEncoding.Statement (.movRvRmv r rm) := rfl

theorem RowEncoding.movRm16Sreg (rm : Rmv) (sr : Sreg) : RowEncoding.Statement (.movRm16Sreg rm sr) := rfl

theorem RowEncoding.movSregRm16 (sr : Sreg) (rm : Rmv) : RowEncoding.Statement (.movSregRm16 sr rm) := rfl

theorem RowEncoding.movAlMoffs (a : Moffs) : RowEncoding.Statement (.movAlMoffs a) := rfl

theorem RowEncoding.movEaxMoffs (a : Moffs) : RowEncoding.Statement (.movEaxMoffs a) := rfl

theorem RowEncoding.movMoffsAl (a : Moffs) : RowEncoding.Statement (.movMoffsAl a) := rfl

theorem RowEncoding.movMoffsEax (a : Moffs) : RowEncoding.Statement (.movMoffsEax a) := rfl

theorem RowEncoding.movR8Imm8 (r : Reg8) (v : Byte) : RowEncoding.Statement (.movR8Imm8 r v) := 
  rowMatches_plusR _ r.bits _ rfl

theorem RowEncoding.movRvImm (r : Gpr) (v : Iz) : RowEncoding.Statement (.movRvImm r v) := 
  rowMatches_plusR _ r.bits _ rfl

theorem RowEncoding.movRm8Imm8 (rm : Rm8) (v : Byte) : RowEncoding.Statement (.movRm8Imm8 rm v) := 
  rowMatches_digit _ 0#3 _ [v] (Rm8.encode_head rm _) rfl

theorem RowEncoding.movRmvImm (rm : Rmv) (v : Iz) : RowEncoding.Statement (.movRmvImm rm v) := 
  rowMatches_digit _ 0#3 _ v.encode (Rmv.encode_head rm _) rfl

theorem RowEncoding.movR32Cr (x : BitVec 2) (r : Gpr) (c : Cr) : RowEncoding.Statement (.movR32Cr x r c) := rfl

theorem RowEncoding.movCrR32 (x : BitVec 2) (c : Cr) (r : Gpr) : RowEncoding.Statement (.movCrR32 x c r) := rfl

theorem RowEncoding.movR32Dr (x : BitVec 2) (r : Gpr) (n : Fin 8) : RowEncoding.Statement (.movR32Dr x r n) := rfl

theorem RowEncoding.movDrR32 (x : BitVec 2) (n : Fin 8) (r : Gpr) : RowEncoding.Statement (.movDrR32 x n r) := rfl

theorem RowEncoding.movR32Tr (x : BitVec 2) (r : Gpr) (n : Fin 8) : RowEncoding.Statement (.movR32Tr x r n) := rfl

theorem RowEncoding.movTrR32 (x : BitVec 2) (n : Fin 8) (r : Gpr) : RowEncoding.Statement (.movTrR32 x n r) := rfl

theorem RowEncoding.addRm8R8 (rm : Rm8) (r : Reg8) : RowEncoding.Statement (.addRm8R8 rm r) := rfl

theorem RowEncoding.addRmvRv (rm : Rmv) (r : Gpr) : RowEncoding.Statement (.addRmvRv rm r) := rfl

theorem RowEncoding.addR8Rm8 (r : Reg8) (rm : Rm8) : RowEncoding.Statement (.addR8Rm8 r rm) := rfl

theorem RowEncoding.addRvRmv (r : Gpr) (rm : Rmv) : RowEncoding.Statement (.addRvRmv r rm) := rfl

theorem RowEncoding.addAlImm8 (v : Byte) : RowEncoding.Statement (.addAlImm8 v) := rfl

theorem RowEncoding.addEaxImm (v : Iz) : RowEncoding.Statement (.addEaxImm v) := rfl

theorem RowEncoding.addRm8Imm8 (rm : Rm8) (v : Byte) : RowEncoding.Statement (.addRm8Imm8 rm v) := 
  rowMatches_digit _ 0#3 _ [v] (Rm8.encode_head rm _) rfl

theorem RowEncoding.addRmvImm (rm : Rmv) (v : Iz) : RowEncoding.Statement (.addRmvImm rm v) := 
  rowMatches_digit _ 0#3 _ v.encode (Rmv.encode_head rm _) rfl

theorem RowEncoding.addRm8Imm8Alias (rm : Rm8) (v : Byte) : RowEncoding.Statement (.addRm8Imm8Alias rm v) := 
  rowMatches_digit _ 0#3 _ [v] (Rm8.encode_head rm _) rfl

theorem RowEncoding.addRmvImm8 (rm : Rmv) (v : Byte) : RowEncoding.Statement (.addRmvImm8 rm v) := 
  rowMatches_digit _ 0#3 _ [v] (Rmv.encode_head rm _) rfl

theorem RowEncoding.orRm8R8 (rm : Rm8) (r : Reg8) : RowEncoding.Statement (.orRm8R8 rm r) := rfl

theorem RowEncoding.orRmvRv (rm : Rmv) (r : Gpr) : RowEncoding.Statement (.orRmvRv rm r) := rfl

theorem RowEncoding.orR8Rm8 (r : Reg8) (rm : Rm8) : RowEncoding.Statement (.orR8Rm8 r rm) := rfl

theorem RowEncoding.orRvRmv (r : Gpr) (rm : Rmv) : RowEncoding.Statement (.orRvRmv r rm) := rfl

theorem RowEncoding.orAlImm8 (v : Byte) : RowEncoding.Statement (.orAlImm8 v) := rfl

theorem RowEncoding.orEaxImm (v : Iz) : RowEncoding.Statement (.orEaxImm v) := rfl

theorem RowEncoding.orRm8Imm8 (rm : Rm8) (v : Byte) : RowEncoding.Statement (.orRm8Imm8 rm v) := 
  rowMatches_digit _ 1#3 _ [v] (Rm8.encode_head rm _) rfl

theorem RowEncoding.orRmvImm (rm : Rmv) (v : Iz) : RowEncoding.Statement (.orRmvImm rm v) := 
  rowMatches_digit _ 1#3 _ v.encode (Rmv.encode_head rm _) rfl

theorem RowEncoding.orRm8Imm8Alias (rm : Rm8) (v : Byte) : RowEncoding.Statement (.orRm8Imm8Alias rm v) := 
  rowMatches_digit _ 1#3 _ [v] (Rm8.encode_head rm _) rfl

theorem RowEncoding.orRmvImm8 (rm : Rmv) (v : Byte) : RowEncoding.Statement (.orRmvImm8 rm v) := 
  rowMatches_digit _ 1#3 _ [v] (Rmv.encode_head rm _) rfl

theorem RowEncoding.adcRm8R8 (rm : Rm8) (r : Reg8) : RowEncoding.Statement (.adcRm8R8 rm r) := rfl

theorem RowEncoding.adcRmvRv (rm : Rmv) (r : Gpr) : RowEncoding.Statement (.adcRmvRv rm r) := rfl

theorem RowEncoding.adcR8Rm8 (r : Reg8) (rm : Rm8) : RowEncoding.Statement (.adcR8Rm8 r rm) := rfl

theorem RowEncoding.adcRvRmv (r : Gpr) (rm : Rmv) : RowEncoding.Statement (.adcRvRmv r rm) := rfl

theorem RowEncoding.adcAlImm8 (v : Byte) : RowEncoding.Statement (.adcAlImm8 v) := rfl

theorem RowEncoding.adcEaxImm (v : Iz) : RowEncoding.Statement (.adcEaxImm v) := rfl

theorem RowEncoding.adcRm8Imm8 (rm : Rm8) (v : Byte) : RowEncoding.Statement (.adcRm8Imm8 rm v) := 
  rowMatches_digit _ 2#3 _ [v] (Rm8.encode_head rm _) rfl

theorem RowEncoding.adcRmvImm (rm : Rmv) (v : Iz) : RowEncoding.Statement (.adcRmvImm rm v) := 
  rowMatches_digit _ 2#3 _ v.encode (Rmv.encode_head rm _) rfl

theorem RowEncoding.adcRm8Imm8Alias (rm : Rm8) (v : Byte) : RowEncoding.Statement (.adcRm8Imm8Alias rm v) := 
  rowMatches_digit _ 2#3 _ [v] (Rm8.encode_head rm _) rfl

theorem RowEncoding.adcRmvImm8 (rm : Rmv) (v : Byte) : RowEncoding.Statement (.adcRmvImm8 rm v) := 
  rowMatches_digit _ 2#3 _ [v] (Rmv.encode_head rm _) rfl

theorem RowEncoding.sbbRm8R8 (rm : Rm8) (r : Reg8) : RowEncoding.Statement (.sbbRm8R8 rm r) := rfl

theorem RowEncoding.sbbRmvRv (rm : Rmv) (r : Gpr) : RowEncoding.Statement (.sbbRmvRv rm r) := rfl

theorem RowEncoding.sbbR8Rm8 (r : Reg8) (rm : Rm8) : RowEncoding.Statement (.sbbR8Rm8 r rm) := rfl

theorem RowEncoding.sbbRvRmv (r : Gpr) (rm : Rmv) : RowEncoding.Statement (.sbbRvRmv r rm) := rfl

theorem RowEncoding.sbbAlImm8 (v : Byte) : RowEncoding.Statement (.sbbAlImm8 v) := rfl

theorem RowEncoding.sbbEaxImm (v : Iz) : RowEncoding.Statement (.sbbEaxImm v) := rfl

theorem RowEncoding.sbbRm8Imm8 (rm : Rm8) (v : Byte) : RowEncoding.Statement (.sbbRm8Imm8 rm v) := 
  rowMatches_digit _ 3#3 _ [v] (Rm8.encode_head rm _) rfl

theorem RowEncoding.sbbRmvImm (rm : Rmv) (v : Iz) : RowEncoding.Statement (.sbbRmvImm rm v) := 
  rowMatches_digit _ 3#3 _ v.encode (Rmv.encode_head rm _) rfl

theorem RowEncoding.sbbRm8Imm8Alias (rm : Rm8) (v : Byte) : RowEncoding.Statement (.sbbRm8Imm8Alias rm v) := 
  rowMatches_digit _ 3#3 _ [v] (Rm8.encode_head rm _) rfl

theorem RowEncoding.sbbRmvImm8 (rm : Rmv) (v : Byte) : RowEncoding.Statement (.sbbRmvImm8 rm v) := 
  rowMatches_digit _ 3#3 _ [v] (Rmv.encode_head rm _) rfl

theorem RowEncoding.andRm8R8 (rm : Rm8) (r : Reg8) : RowEncoding.Statement (.andRm8R8 rm r) := rfl

theorem RowEncoding.andRmvRv (rm : Rmv) (r : Gpr) : RowEncoding.Statement (.andRmvRv rm r) := rfl

theorem RowEncoding.andR8Rm8 (r : Reg8) (rm : Rm8) : RowEncoding.Statement (.andR8Rm8 r rm) := rfl

theorem RowEncoding.andRvRmv (r : Gpr) (rm : Rmv) : RowEncoding.Statement (.andRvRmv r rm) := rfl

theorem RowEncoding.andAlImm8 (v : Byte) : RowEncoding.Statement (.andAlImm8 v) := rfl

theorem RowEncoding.andEaxImm (v : Iz) : RowEncoding.Statement (.andEaxImm v) := rfl

theorem RowEncoding.andRm8Imm8 (rm : Rm8) (v : Byte) : RowEncoding.Statement (.andRm8Imm8 rm v) := 
  rowMatches_digit _ 4#3 _ [v] (Rm8.encode_head rm _) rfl

theorem RowEncoding.andRmvImm (rm : Rmv) (v : Iz) : RowEncoding.Statement (.andRmvImm rm v) := 
  rowMatches_digit _ 4#3 _ v.encode (Rmv.encode_head rm _) rfl

theorem RowEncoding.andRm8Imm8Alias (rm : Rm8) (v : Byte) : RowEncoding.Statement (.andRm8Imm8Alias rm v) := 
  rowMatches_digit _ 4#3 _ [v] (Rm8.encode_head rm _) rfl

theorem RowEncoding.andRmvImm8 (rm : Rmv) (v : Byte) : RowEncoding.Statement (.andRmvImm8 rm v) := 
  rowMatches_digit _ 4#3 _ [v] (Rmv.encode_head rm _) rfl

theorem RowEncoding.subRm8R8 (rm : Rm8) (r : Reg8) : RowEncoding.Statement (.subRm8R8 rm r) := rfl

theorem RowEncoding.subRmvRv (rm : Rmv) (r : Gpr) : RowEncoding.Statement (.subRmvRv rm r) := rfl

theorem RowEncoding.subR8Rm8 (r : Reg8) (rm : Rm8) : RowEncoding.Statement (.subR8Rm8 r rm) := rfl

theorem RowEncoding.subRvRmv (r : Gpr) (rm : Rmv) : RowEncoding.Statement (.subRvRmv r rm) := rfl

theorem RowEncoding.subAlImm8 (v : Byte) : RowEncoding.Statement (.subAlImm8 v) := rfl

theorem RowEncoding.subEaxImm (v : Iz) : RowEncoding.Statement (.subEaxImm v) := rfl

theorem RowEncoding.subRm8Imm8 (rm : Rm8) (v : Byte) : RowEncoding.Statement (.subRm8Imm8 rm v) := 
  rowMatches_digit _ 5#3 _ [v] (Rm8.encode_head rm _) rfl

theorem RowEncoding.subRmvImm (rm : Rmv) (v : Iz) : RowEncoding.Statement (.subRmvImm rm v) := 
  rowMatches_digit _ 5#3 _ v.encode (Rmv.encode_head rm _) rfl

theorem RowEncoding.subRm8Imm8Alias (rm : Rm8) (v : Byte) : RowEncoding.Statement (.subRm8Imm8Alias rm v) := 
  rowMatches_digit _ 5#3 _ [v] (Rm8.encode_head rm _) rfl

theorem RowEncoding.subRmvImm8 (rm : Rmv) (v : Byte) : RowEncoding.Statement (.subRmvImm8 rm v) := 
  rowMatches_digit _ 5#3 _ [v] (Rmv.encode_head rm _) rfl

theorem RowEncoding.xorRm8R8 (rm : Rm8) (r : Reg8) : RowEncoding.Statement (.xorRm8R8 rm r) := rfl

theorem RowEncoding.xorRmvRv (rm : Rmv) (r : Gpr) : RowEncoding.Statement (.xorRmvRv rm r) := rfl

theorem RowEncoding.xorR8Rm8 (r : Reg8) (rm : Rm8) : RowEncoding.Statement (.xorR8Rm8 r rm) := rfl

theorem RowEncoding.xorRvRmv (r : Gpr) (rm : Rmv) : RowEncoding.Statement (.xorRvRmv r rm) := rfl

theorem RowEncoding.xorAlImm8 (v : Byte) : RowEncoding.Statement (.xorAlImm8 v) := rfl

theorem RowEncoding.xorEaxImm (v : Iz) : RowEncoding.Statement (.xorEaxImm v) := rfl

theorem RowEncoding.xorRm8Imm8 (rm : Rm8) (v : Byte) : RowEncoding.Statement (.xorRm8Imm8 rm v) := 
  rowMatches_digit _ 6#3 _ [v] (Rm8.encode_head rm _) rfl

theorem RowEncoding.xorRmvImm (rm : Rmv) (v : Iz) : RowEncoding.Statement (.xorRmvImm rm v) := 
  rowMatches_digit _ 6#3 _ v.encode (Rmv.encode_head rm _) rfl

theorem RowEncoding.xorRm8Imm8Alias (rm : Rm8) (v : Byte) : RowEncoding.Statement (.xorRm8Imm8Alias rm v) := 
  rowMatches_digit _ 6#3 _ [v] (Rm8.encode_head rm _) rfl

theorem RowEncoding.xorRmvImm8 (rm : Rmv) (v : Byte) : RowEncoding.Statement (.xorRmvImm8 rm v) := 
  rowMatches_digit _ 6#3 _ [v] (Rmv.encode_head rm _) rfl

theorem RowEncoding.incRv (r : Gpr) : RowEncoding.Statement (.incRv r) := 
  rowMatches_plusR _ r.bits _ rfl

theorem RowEncoding.incRm8 (rm : Rm8) : RowEncoding.Statement (.incRm8 rm) := 
  rowMatches_digit' _ 0#3 _ (Rm8.encode_head rm _) rfl

theorem RowEncoding.incRmv (rm : Rmv) : RowEncoding.Statement (.incRmv rm) := 
  rowMatches_digit' _ 0#3 _ (Rmv.encode_head rm _) rfl

theorem RowEncoding.decRv (r : Gpr) : RowEncoding.Statement (.decRv r) := 
  rowMatches_plusR _ r.bits _ rfl

theorem RowEncoding.decRm8 (rm : Rm8) : RowEncoding.Statement (.decRm8 rm) := 
  rowMatches_digit' _ 1#3 _ (Rm8.encode_head rm _) rfl

theorem RowEncoding.decRmv (rm : Rmv) : RowEncoding.Statement (.decRmv rm) := 
  rowMatches_digit' _ 1#3 _ (Rmv.encode_head rm _) rfl

theorem RowEncoding.shlRm8Imm8 (rm : Rm8) (v : Byte) : RowEncoding.Statement (.shlRm8Imm8 rm v) := 
  rowMatches_digit _ 4#3 _ [v] (Rm8.encode_head rm _) rfl

theorem RowEncoding.shlRmvImm8 (rm : Rmv) (v : Byte) : RowEncoding.Statement (.shlRmvImm8 rm v) := 
  rowMatches_digit _ 4#3 _ [v] (Rmv.encode_head rm _) rfl

theorem RowEncoding.shlRm8One (rm : Rm8) : RowEncoding.Statement (.shlRm8One rm) := 
  rowMatches_digit' _ 4#3 _ (Rm8.encode_head rm _) rfl

theorem RowEncoding.shlRmvOne (rm : Rmv) : RowEncoding.Statement (.shlRmvOne rm) := 
  rowMatches_digit' _ 4#3 _ (Rmv.encode_head rm _) rfl

theorem RowEncoding.shlRm8Cl (rm : Rm8) : RowEncoding.Statement (.shlRm8Cl rm) := 
  rowMatches_digit' _ 4#3 _ (Rm8.encode_head rm _) rfl

theorem RowEncoding.shlRmvCl (rm : Rmv) : RowEncoding.Statement (.shlRmvCl rm) := 
  rowMatches_digit' _ 4#3 _ (Rmv.encode_head rm _) rfl

theorem RowEncoding.shrRm8Imm8 (rm : Rm8) (v : Byte) : RowEncoding.Statement (.shrRm8Imm8 rm v) := 
  rowMatches_digit _ 5#3 _ [v] (Rm8.encode_head rm _) rfl

theorem RowEncoding.shrRmvImm8 (rm : Rmv) (v : Byte) : RowEncoding.Statement (.shrRmvImm8 rm v) := 
  rowMatches_digit _ 5#3 _ [v] (Rmv.encode_head rm _) rfl

theorem RowEncoding.shrRm8One (rm : Rm8) : RowEncoding.Statement (.shrRm8One rm) := 
  rowMatches_digit' _ 5#3 _ (Rm8.encode_head rm _) rfl

theorem RowEncoding.shrRmvOne (rm : Rmv) : RowEncoding.Statement (.shrRmvOne rm) := 
  rowMatches_digit' _ 5#3 _ (Rmv.encode_head rm _) rfl

theorem RowEncoding.shrRm8Cl (rm : Rm8) : RowEncoding.Statement (.shrRm8Cl rm) := 
  rowMatches_digit' _ 5#3 _ (Rm8.encode_head rm _) rfl

theorem RowEncoding.shrRmvCl (rm : Rmv) : RowEncoding.Statement (.shrRmvCl rm) := 
  rowMatches_digit' _ 5#3 _ (Rmv.encode_head rm _) rfl

theorem RowEncoding.pushRv (r : Gpr) : RowEncoding.Statement (.pushRv r) := 
  rowMatches_plusR _ r.bits _ rfl

theorem RowEncoding.pushRmv (rm : Rmv) : RowEncoding.Statement (.pushRmv rm) := 
  rowMatches_digit' _ 6#3 _ (Rmv.encode_head rm _) rfl

theorem RowEncoding.pushImm (v : Iz) : RowEncoding.Statement (.pushImm v) := rfl

theorem RowEncoding.pushImm8 (v : Byte) : RowEncoding.Statement (.pushImm8 v) := rfl

theorem RowEncoding.pushEs : RowEncoding.Statement .pushEs := rfl

theorem RowEncoding.pushCs : RowEncoding.Statement .pushCs := rfl

theorem RowEncoding.pushSs : RowEncoding.Statement .pushSs := rfl

theorem RowEncoding.pushDs : RowEncoding.Statement .pushDs := rfl

theorem RowEncoding.pushFs : RowEncoding.Statement .pushFs := rfl

theorem RowEncoding.pushGs : RowEncoding.Statement .pushGs := rfl

theorem RowEncoding.popRv (r : Gpr) : RowEncoding.Statement (.popRv r) := 
  rowMatches_plusR _ r.bits _ rfl

theorem RowEncoding.popRmv (rm : Rmv) : RowEncoding.Statement (.popRmv rm) := 
  rowMatches_digit' _ 0#3 _ (Rmv.encode_head rm _) rfl

theorem RowEncoding.popEs : RowEncoding.Statement .popEs := rfl

theorem RowEncoding.popSs : RowEncoding.Statement .popSs := rfl

theorem RowEncoding.popDs : RowEncoding.Statement .popDs := rfl

theorem RowEncoding.popFs : RowEncoding.Statement .popFs := rfl

theorem RowEncoding.popGs : RowEncoding.Statement .popGs := rfl

theorem RowEncoding.lgdt (f : MemForm) : RowEncoding.Statement (.lgdt f) := 
  rowMatches_escape _ 2#3 _ (MemForm.encode_head f _) rfl

theorem RowEncoding.lidt (f : MemForm) : RowEncoding.Statement (.lidt f) := 
  rowMatches_escape _ 3#3 _ (MemForm.encode_head f _) rfl

end Sys2Proof.Laws
end

