-- ==== Sys2Proof/Laws/Record.lean ====
section
/-! SUPPORT. The shape of every decoded record: its operands by opcode class. One lemma, by the constructors, which claims about classes cite. -/

namespace Sys2Proof

/-- The opcode class of an ALU operation. -/
def AluOp.opClass : AluOp → OpClass
  | .add => .add | .or => .or | .adc => .adc | .sbb => .sbb | .and => .and | .sub => .sub | .xor => .xor

/-- A general register of the width, or memory. -/
def dataOperand (w : Width) : Operand → Prop
  | .reg id => match w with
    | .w8 => ∃ r : Reg8, id = r.id
    | .w16 => ∃ r : Gpr, id = r.id .s16
    | .w32 => ∃ r : Gpr, id = r.id .s32
  | .mem _ _ _ _ _ => True
  | .imm _ _ => False
  | .far _ _ _ => False
  | .undefinedKind => False

/-- A general register of the width, memory or an immediate. -/
def sourceOperand (w : Width) (o : Operand) : Prop := dataOperand w o ∨ ∃ v k, o = .imm v k

/-- The operands a record can have, by opcode class (30_encoding.md R117). -/
inductive RecordShape : Record → Prop
  | alu {r : Record} {d s : Operand} (x : AluOp) (hop : r.op = x.opClass)
      (ho : r.opnd = [d, s]) (hd : dataOperand r.osz d) (hs : sourceOperand r.osz s) : RecordShape r
  | incDec {r : Record} {d : Operand} (hop : r.op = .inc ∨ r.op = .dec) (ho : r.opnd = [d])
      (hd : dataOperand r.osz d) : RecordShape r
  | shift {r : Record} {d c : Operand} (hop : r.op = .shl ∨ r.op = .shr) (ho : r.opnd = [d, c])
      (hd : dataOperand r.osz d) (hc : c = .reg Reg8.cl.id ∨ ∃ v, c = .imm v 1) : RecordShape r
  | push {r : Record} {s : Operand} (hop : r.op = .push) (ho : r.opnd = [s]) (hs : sourceOperand r.osz s)
      (hw : r.osz ≠ .w8) : RecordShape r
  | pushSeg {r : Record} (x : Sreg) (hop : r.op = .push) (ho : r.opnd = [.reg x.id]) (hw : r.osz ≠ .w8) : RecordShape r
  | pop {r : Record} {d : Operand} (hop : r.op = .pop) (ho : r.opnd = [d]) (hd : dataOperand r.osz d)
      (hw : r.osz ≠ .w8) : RecordShape r
  | popSeg {r : Record} (x : Sreg) (hop : r.op = .pop) (ho : r.opnd = [.reg x.id]) (hx : x ≠ .cs) (hw : r.osz ≠ .w8) :
      RecordShape r
  | moveFrom {r : Record} {d s : Operand} (hop : r.op = .mov) (ho : r.opnd = [d, s]) (hd : dataOperand r.osz d)
      (hs : sourceOperand r.osz s ∨ ∃ id, s = .reg id) : RecordShape r
  | moveSeg {r : Record} {s : Operand} (x : Sreg) (hop : r.op = .mov) (hw : r.osz ≠ .w8) (ho : r.opnd = [.reg x.id, s])
      (hs : dataOperand .w16 s) : RecordShape r
  | moveControl {r : Record} {id : Nat} (g : Gpr) (hop : r.op = .mov) (hw : r.osz = .w32)
      (ho : r.opnd = [.reg id, .reg (g.id .s32)])
      (hid : (∃ c : Cr, id = c.id) ∨ (∃ n : Fin 8, id = 48 + n.val) ∨ ∃ n : Fin 8, id = 35 + n.val) : RecordShape r
  | table {r : Record} {o : Operand} (hop : r.op = .lgdt ∨ r.op = .lidt) (ho : r.opnd = [o])
      (hm : ∃ base index scale disp z, o = .mem base index scale disp z) : RecordShape r

theorem mem_operand (f : MemForm) : ∃ base index scale disp z, f.operand = .mem base index scale disp z := by
  cases f <;> exact ⟨_, _, _, _, _, rfl⟩

theorem data_mem (f : MemForm) (w : Width) : dataOperand w f.operand := by cases f <;> exact trivial

theorem data_moffs (a : Moffs) (w : Width) : dataOperand w a.operand := by cases a <;> exact trivial

theorem data_reg8 (r : Reg8) : dataOperand .w8 r.operand := ⟨r, rfl⟩

theorem data_gpr (r : Gpr) (z : Size) : dataOperand z.width (r.operand z) := by cases z <;> exact ⟨r, rfl⟩

theorem data_rm8 (rm : Rm8) : dataOperand .w8 rm.operand := by
  cases rm with
  | reg r => exact data_reg8 r
  | mem f => exact data_mem f _

theorem data_rmv (rm : Rmv) (z : Size) : dataOperand z.width (rm.operand z) := by
  cases rm with
  | reg r => exact data_gpr r z
  | mem f => exact data_mem f _

theorem source_iz (v : Iz) (w : Width) : sourceOperand w v.operand := by cases v <;> exact .inr ⟨_, _, rfl⟩

theorem width_ne (z : Size) : z.width ≠ .w8 := by cases z <;> decide

/-- Every instruction behind any prefixes decodes to a record of one of the shapes. -/
theorem record_shape (m : CodeMode) (i : Instr) (p : Prefixes) : RecordShape (Instr.record m p i) := by
  induction i generalizing p with
  | segEs i ih => exact ih _
  | segCs i ih => exact ih _
  | segSs i ih => exact ih _
  | segDs i ih => exact ih _
  | segFs i ih => exact ih _
  | segGs i ih => exact ih _
  | opsize i ih => exact ih _
  | adsize i ih => exact ih _
  | lock i ih => exact ih _
  | repne i ih => exact ih _
  | rep i ih => exact ih _
  | movRm8R8 rm r => exact .moveFrom rfl rfl (data_rm8 rm) (.inl (.inl (data_reg8 r)))
  | movRmvRv rm r => exact .moveFrom rfl rfl (data_rmv rm _) (.inl (.inl (data_gpr r _)))
  | movR8Rm8 r rm => exact .moveFrom rfl rfl (data_reg8 r) (.inl (.inl (data_rm8 rm)))
  | movRvRmv r rm => exact .moveFrom rfl rfl (data_gpr r _) (.inl (.inl (data_rmv rm _)))
  | movRm16Sreg rm sr => exact .moveFrom rfl rfl (data_rmv rm _) (.inr ⟨_, rfl⟩)
  | movSregRm16 sr rm => exact .moveSeg sr rfl (width_ne _) rfl (data_rmv rm .s16)
  | movAlMoffs a => exact .moveFrom rfl rfl (data_reg8 .al) (.inl (.inl (data_moffs a _)))
  | movEaxMoffs a => exact .moveFrom rfl rfl (data_gpr .eax _) (.inl (.inl (data_moffs a _)))
  | movMoffsAl a => exact .moveFrom rfl rfl (data_moffs a _) (.inl (.inl (data_reg8 .al)))
  | movMoffsEax a => exact .moveFrom rfl rfl (data_moffs a _) (.inl (.inl (data_gpr .eax _)))
  | movR8Imm8 r v => exact .moveFrom rfl rfl (data_reg8 r) (.inl (.inr ⟨_, _, rfl⟩))
  | movRvImm r v => exact .moveFrom rfl rfl (data_gpr r _) (.inl (source_iz v _))
  | movRm8Imm8 rm v => exact .moveFrom rfl rfl (data_rm8 rm) (.inl (.inr ⟨_, _, rfl⟩))
  | movRmvImm rm v => exact .moveFrom rfl rfl (data_rmv rm _) (.inl (source_iz v _))
  | movR32Cr _ r c => exact .moveFrom rfl rfl (data_gpr r .s32) (.inr ⟨_, rfl⟩)
  | movCrR32 _ c r => exact .moveControl r rfl rfl rfl (by exact .inl ⟨c, rfl⟩)
  | movR32Dr _ r n => exact .moveFrom rfl rfl (data_gpr r .s32) (.inr ⟨_, rfl⟩)
  | movDrR32 _ n r => exact .moveControl r rfl rfl rfl (by exact .inr (.inl ⟨n, rfl⟩))
  | movR32Tr _ r n => exact .moveFrom rfl rfl (data_gpr r .s32) (.inr ⟨_, rfl⟩)
  | movTrR32 _ n r => exact .moveControl r rfl rfl rfl (by exact .inr (.inr ⟨n, rfl⟩))
  | addRm8R8 rm r => exact .alu .add rfl rfl (data_rm8 rm) (.inl (data_reg8 r))
  | addRmvRv rm r => exact .alu .add rfl rfl (data_rmv rm _) (.inl (data_gpr r _))
  | addR8Rm8 r rm => exact .alu .add rfl rfl (data_reg8 r) (.inl (data_rm8 rm))
  | addRvRmv r rm => exact .alu .add rfl rfl (data_gpr r _) (.inl (data_rmv rm _))
  | addAlImm8 v => exact .alu .add rfl rfl (data_reg8 .al) (.inr ⟨_, _, rfl⟩)
  | addEaxImm v => exact .alu .add rfl rfl (data_gpr .eax _) (source_iz v _)
  | addRm8Imm8 rm v => exact .alu .add rfl rfl (data_rm8 rm) (.inr ⟨_, _, rfl⟩)
  | addRmvImm rm v => exact .alu .add rfl rfl (data_rmv rm _) (source_iz v _)
  | addRm8Imm8Alias rm v => exact .alu .add rfl rfl (data_rm8 rm) (.inr ⟨_, _, rfl⟩)
  | addRmvImm8 rm v => exact .alu .add rfl rfl (data_rmv rm _) (.inr ⟨_, _, rfl⟩)
  | orRm8R8 rm r => exact .alu .or rfl rfl (data_rm8 rm) (.inl (data_reg8 r))
  | orRmvRv rm r => exact .alu .or rfl rfl (data_rmv rm _) (.inl (data_gpr r _))
  | orR8Rm8 r rm => exact .alu .or rfl rfl (data_reg8 r) (.inl (data_rm8 rm))
  | orRvRmv r rm => exact .alu .or rfl rfl (data_gpr r _) (.inl (data_rmv rm _))
  | orAlImm8 v => exact .alu .or rfl rfl (data_reg8 .al) (.inr ⟨_, _, rfl⟩)
  | orEaxImm v => exact .alu .or rfl rfl (data_gpr .eax _) (source_iz v _)
  | orRm8Imm8 rm v => exact .alu .or rfl rfl (data_rm8 rm) (.inr ⟨_, _, rfl⟩)
  | orRmvImm rm v => exact .alu .or rfl rfl (data_rmv rm _) (source_iz v _)
  | orRm8Imm8Alias rm v => exact .alu .or rfl rfl (data_rm8 rm) (.inr ⟨_, _, rfl⟩)
  | orRmvImm8 rm v => exact .alu .or rfl rfl (data_rmv rm _) (.inr ⟨_, _, rfl⟩)
  | adcRm8R8 rm r => exact .alu .adc rfl rfl (data_rm8 rm) (.inl (data_reg8 r))
  | adcRmvRv rm r => exact .alu .adc rfl rfl (data_rmv rm _) (.inl (data_gpr r _))
  | adcR8Rm8 r rm => exact .alu .adc rfl rfl (data_reg8 r) (.inl (data_rm8 rm))
  | adcRvRmv r rm => exact .alu .adc rfl rfl (data_gpr r _) (.inl (data_rmv rm _))
  | adcAlImm8 v => exact .alu .adc rfl rfl (data_reg8 .al) (.inr ⟨_, _, rfl⟩)
  | adcEaxImm v => exact .alu .adc rfl rfl (data_gpr .eax _) (source_iz v _)
  | adcRm8Imm8 rm v => exact .alu .adc rfl rfl (data_rm8 rm) (.inr ⟨_, _, rfl⟩)
  | adcRmvImm rm v => exact .alu .adc rfl rfl (data_rmv rm _) (source_iz v _)
  | adcRm8Imm8Alias rm v => exact .alu .adc rfl rfl (data_rm8 rm) (.inr ⟨_, _, rfl⟩)
  | adcRmvImm8 rm v => exact .alu .adc rfl rfl (data_rmv rm _) (.inr ⟨_, _, rfl⟩)
  | sbbRm8R8 rm r => exact .alu .sbb rfl rfl (data_rm8 rm) (.inl (data_reg8 r))
  | sbbRmvRv rm r => exact .alu .sbb rfl rfl (data_rmv rm _) (.inl (data_gpr r _))
  | sbbR8Rm8 r rm => exact .alu .sbb rfl rfl (data_reg8 r) (.inl (data_rm8 rm))
  | sbbRvRmv r rm => exact .alu .sbb rfl rfl (data_gpr r _) (.inl (data_rmv rm _))
  | sbbAlImm8 v => exact .alu .sbb rfl rfl (data_reg8 .al) (.inr ⟨_, _, rfl⟩)
  | sbbEaxImm v => exact .alu .sbb rfl rfl (data_gpr .eax _) (source_iz v _)
  | sbbRm8Imm8 rm v => exact .alu .sbb rfl rfl (data_rm8 rm) (.inr ⟨_, _, rfl⟩)
  | sbbRmvImm rm v => exact .alu .sbb rfl rfl (data_rmv rm _) (source_iz v _)
  | sbbRm8Imm8Alias rm v => exact .alu .sbb rfl rfl (data_rm8 rm) (.inr ⟨_, _, rfl⟩)
  | sbbRmvImm8 rm v => exact .alu .sbb rfl rfl (data_rmv rm _) (.inr ⟨_, _, rfl⟩)
  | andRm8R8 rm r => exact .alu .and rfl rfl (data_rm8 rm) (.inl (data_reg8 r))
  | andRmvRv rm r => exact .alu .and rfl rfl (data_rmv rm _) (.inl (data_gpr r _))
  | andR8Rm8 r rm => exact .alu .and rfl rfl (data_reg8 r) (.inl (data_rm8 rm))
  | andRvRmv r rm => exact .alu .and rfl rfl (data_gpr r _) (.inl (data_rmv rm _))
  | andAlImm8 v => exact .alu .and rfl rfl (data_reg8 .al) (.inr ⟨_, _, rfl⟩)
  | andEaxImm v => exact .alu .and rfl rfl (data_gpr .eax _) (source_iz v _)
  | andRm8Imm8 rm v => exact .alu .and rfl rfl (data_rm8 rm) (.inr ⟨_, _, rfl⟩)
  | andRmvImm rm v => exact .alu .and rfl rfl (data_rmv rm _) (source_iz v _)
  | andRm8Imm8Alias rm v => exact .alu .and rfl rfl (data_rm8 rm) (.inr ⟨_, _, rfl⟩)
  | andRmvImm8 rm v => exact .alu .and rfl rfl (data_rmv rm _) (.inr ⟨_, _, rfl⟩)
  | subRm8R8 rm r => exact .alu .sub rfl rfl (data_rm8 rm) (.inl (data_reg8 r))
  | subRmvRv rm r => exact .alu .sub rfl rfl (data_rmv rm _) (.inl (data_gpr r _))
  | subR8Rm8 r rm => exact .alu .sub rfl rfl (data_reg8 r) (.inl (data_rm8 rm))
  | subRvRmv r rm => exact .alu .sub rfl rfl (data_gpr r _) (.inl (data_rmv rm _))
  | subAlImm8 v => exact .alu .sub rfl rfl (data_reg8 .al) (.inr ⟨_, _, rfl⟩)
  | subEaxImm v => exact .alu .sub rfl rfl (data_gpr .eax _) (source_iz v _)
  | subRm8Imm8 rm v => exact .alu .sub rfl rfl (data_rm8 rm) (.inr ⟨_, _, rfl⟩)
  | subRmvImm rm v => exact .alu .sub rfl rfl (data_rmv rm _) (source_iz v _)
  | subRm8Imm8Alias rm v => exact .alu .sub rfl rfl (data_rm8 rm) (.inr ⟨_, _, rfl⟩)
  | subRmvImm8 rm v => exact .alu .sub rfl rfl (data_rmv rm _) (.inr ⟨_, _, rfl⟩)
  | xorRm8R8 rm r => exact .alu .xor rfl rfl (data_rm8 rm) (.inl (data_reg8 r))
  | xorRmvRv rm r => exact .alu .xor rfl rfl (data_rmv rm _) (.inl (data_gpr r _))
  | xorR8Rm8 r rm => exact .alu .xor rfl rfl (data_reg8 r) (.inl (data_rm8 rm))
  | xorRvRmv r rm => exact .alu .xor rfl rfl (data_gpr r _) (.inl (data_rmv rm _))
  | xorAlImm8 v => exact .alu .xor rfl rfl (data_reg8 .al) (.inr ⟨_, _, rfl⟩)
  | xorEaxImm v => exact .alu .xor rfl rfl (data_gpr .eax _) (source_iz v _)
  | xorRm8Imm8 rm v => exact .alu .xor rfl rfl (data_rm8 rm) (.inr ⟨_, _, rfl⟩)
  | xorRmvImm rm v => exact .alu .xor rfl rfl (data_rmv rm _) (source_iz v _)
  | xorRm8Imm8Alias rm v => exact .alu .xor rfl rfl (data_rm8 rm) (.inr ⟨_, _, rfl⟩)
  | xorRmvImm8 rm v => exact .alu .xor rfl rfl (data_rmv rm _) (.inr ⟨_, _, rfl⟩)
  | incRv r => exact .incDec (.inl rfl) rfl (data_gpr r _)
  | incRm8 rm => exact .incDec (.inl rfl) rfl (data_rm8 rm)
  | incRmv rm => exact .incDec (.inl rfl) rfl (data_rmv rm _)
  | decRv r => exact .incDec (.inr rfl) rfl (data_gpr r _)
  | decRm8 rm => exact .incDec (.inr rfl) rfl (data_rm8 rm)
  | decRmv rm => exact .incDec (.inr rfl) rfl (data_rmv rm _)
  | shlRm8Imm8 rm v => exact .shift (.inl rfl) rfl (data_rm8 rm) (.inr ⟨_, rfl⟩)
  | shlRmvImm8 rm v => exact .shift (.inl rfl) rfl (data_rmv rm _) (.inr ⟨_, rfl⟩)
  | shlRm8One rm => exact .shift (.inl rfl) rfl (data_rm8 rm) (.inr ⟨_, rfl⟩)
  | shlRmvOne rm => exact .shift (.inl rfl) rfl (data_rmv rm _) (.inr ⟨_, rfl⟩)
  | shlRm8Cl rm => exact .shift (.inl rfl) rfl (data_rm8 rm) (.inl rfl)
  | shlRmvCl rm => exact .shift (.inl rfl) rfl (data_rmv rm _) (.inl rfl)
  | shrRm8Imm8 rm v => exact .shift (.inr rfl) rfl (data_rm8 rm) (.inr ⟨_, rfl⟩)
  | shrRmvImm8 rm v => exact .shift (.inr rfl) rfl (data_rmv rm _) (.inr ⟨_, rfl⟩)
  | shrRm8One rm => exact .shift (.inr rfl) rfl (data_rm8 rm) (.inr ⟨_, rfl⟩)
  | shrRmvOne rm => exact .shift (.inr rfl) rfl (data_rmv rm _) (.inr ⟨_, rfl⟩)
  | shrRm8Cl rm => exact .shift (.inr rfl) rfl (data_rm8 rm) (.inl rfl)
  | shrRmvCl rm => exact .shift (.inr rfl) rfl (data_rmv rm _) (.inl rfl)
  | pushRv r => exact .push rfl rfl (.inl (data_gpr r _)) (width_ne _)
  | pushRmv rm => exact .push rfl rfl (.inl (data_rmv rm _)) (width_ne _)
  | pushImm v => exact .push rfl rfl (source_iz v _) (width_ne _)
  | pushImm8 v => exact .push rfl rfl (.inr ⟨_, _, rfl⟩) (width_ne _)
  | pushEs => exact .pushSeg .es rfl rfl (width_ne _)
  | pushCs => exact .pushSeg .cs rfl rfl (width_ne _)
  | pushSs => exact .pushSeg .ss rfl rfl (width_ne _)
  | pushDs => exact .pushSeg .ds rfl rfl (width_ne _)
  | pushFs => exact .pushSeg .fs rfl rfl (width_ne _)
  | pushGs => exact .pushSeg .gs rfl rfl (width_ne _)
  | popRv r => exact .pop rfl rfl (data_gpr r _) (width_ne _)
  | popRmv rm => exact .pop rfl rfl (data_rmv rm _) (width_ne _)
  | popEs => exact .popSeg .es rfl rfl (by decide) (width_ne _)
  | popSs => exact .popSeg .ss rfl rfl (by decide) (width_ne _)
  | popDs => exact .popSeg .ds rfl rfl (by decide) (width_ne _)
  | popFs => exact .popSeg .fs rfl rfl (by decide) (width_ne _)
  | popGs => exact .popSeg .gs rfl rfl (by decide) (width_ne _)
  | lgdt f => exact .table (.inl rfl) rfl (mem_operand f)
  | lidt f => exact .table (.inr rfl) rfl (mem_operand f)

end Sys2Proof
end

