-- ==== Sys2Proof/Tests/Slice0.lean ====
section
/-! SUPPORT. The model's own tests: ill-formed terms refused, words written out from the opcode map, single steps from spec/95_test_vectors.md, and for every statement with hypotheses a case that meets them. -/

namespace Sys2Proof.Tests

open Sys2Proof Sys2Proof.Machine

def m16 : CodeMode := ⟨.s16, .s16⟩

def m32 : CodeMode := ⟨.s32, .s32⟩

/-! ## WellFormed: one ill-formed term for each check -/

theorem test_wf_bp_needs_displacement :
    (Instr.movRm8R8 (.mem (.based16 .bp .d0)) .al).wf m16 = false ∧
    (Instr.movRm8R8 (.mem (.based16 .bp (.d8 0))) .al).wf m16 = true := by decide

theorem test_wf_esp_base_needs_sib :
    (Instr.movRm8R8 (.mem (.based32 .esp .d0)) .al).wf m32 = false ∧
    (Instr.movRm8R8 (.mem (.sib32 .x1 .esp .esp .d0)) .al).wf m32 = true := by decide

theorem test_wf_ebp_needs_displacement :
    (Instr.movRm8R8 (.mem (.based32 .ebp .d0)) .al).wf m32 = false ∧
    (Instr.movRm8R8 (.mem (.sib32 .x2 .eax .ebp .d0)) .al).wf m32 = false := by decide

theorem test_wf_form_of_the_address_size :
    (Instr.movRm8R8 (.mem (.direct32 0)) .al).wf m16 = false ∧
    (Instr.adsize (.movRm8R8 (.mem (.direct32 0)) .al)).wf m16 = true := by decide

theorem test_wf_moffs_of_the_address_size :
    (Instr.movAlMoffs (.o32 0)).wf m16 = false ∧ (Instr.movAlMoffs (.o16 0)).wf m16 = true := by decide

theorem test_wf_immediate_of_the_operand_size :
    (Instr.addEaxImm (.i32 0)).wf m16 = false ∧ (Instr.opsize (.addEaxImm (.i32 0))).wf m16 = true := by decide

theorem test_wf_no_mov_to_cs :
    (Instr.movSregRm16 .cs (.reg .eax)).wf m16 = false ∧ (Instr.movRm16Sreg (.reg .eax) .cs).wf m16 = true := by decide

theorem test_wf_no_cr1 :
    (Instr.movR32Cr 3 .eax .cr1).wf m16 = false ∧ (Instr.movCrR32 3 .cr1 .eax).wf m16 = false := by decide

theorem test_wf_no_dr4_dr5 :
    (Instr.movR32Dr 3 .eax 4).wf m16 = false ∧ (Instr.movDrR32 3 5 .eax).wf m16 = false := by decide

theorem test_wf_no_tr0_to_tr2 :
    (Instr.movR32Tr 3 .eax 0).wf m16 = false ∧ (Instr.movTrR32 3 2 .eax).wf m16 = false ∧
    (Instr.movTrR32 3 3 .eax).wf m16 = true := by decide

theorem test_wf_lock_needs_memory_destination :
    (Instr.lock (.addRm8R8 (.reg .al) .al)).wf m16 = false ∧ (Instr.lock (.movAlMoffs (.o16 0))).wf m16 = false ∧
    (Instr.lock (.addRm8R8 (.mem (.direct16 0)) .al)).wf m16 = true := by decide

theorem test_wf_at_most_15_bytes :
    (withPrefixes (List.replicate 14 .ds) .pushEs).wf m16 = true ∧
    (withPrefixes (List.replicate 15 .ds) .pushEs).wf m16 = false := by decide

/-! ## Decode: every constructor, words written out from the opcode map of 30_encoding.md R103 and R118 -/

/-- Each byte string decodes, under its sizes, to the instruction beside it. -/
def reads (l : List (CodeMode × List Byte × Instr)) : Bool := l.all fun x => decode x.1 x.2.1 = .ok x.2.2

theorem test_decode_prefixes : reads [
    (m16, [0x26#8, 0x04#8, 0x01#8], .segEs (.addAlImm8 0x01#8)),
    (m16, [0x2E#8, 0x04#8, 0x01#8], .segCs (.addAlImm8 0x01#8)),
    (m16, [0x36#8, 0x04#8, 0x01#8], .segSs (.addAlImm8 0x01#8)),
    (m16, [0x3E#8, 0x04#8, 0x01#8], .segDs (.addAlImm8 0x01#8)),
    (m16, [0x64#8, 0x04#8, 0x01#8], .segFs (.addAlImm8 0x01#8)),
    (m16, [0x65#8, 0x04#8, 0x01#8], .segGs (.addAlImm8 0x01#8)),
    (m16, [0xF2#8, 0x04#8, 0x01#8], .repne (.addAlImm8 0x01#8)),
    (m16, [0xF3#8, 0x04#8, 0x01#8], .rep (.addAlImm8 0x01#8)),
    (m16, [0x66#8, 0x05#8, 0x78#8, 0x56#8, 0x34#8, 0x12#8], .opsize (.addEaxImm (.i32 0x12345678#32))),
    (m16, [0x67#8, 0x88#8, 0x05#8, 0x78#8, 0x56#8, 0x34#8, 0x12#8], .adsize (.movRm8R8 (.mem (.direct32 0x12345678#32)) .al)),
    (m16, [0xF0#8, 0xFE#8, 0x07#8], .lock (.incRm8 (.mem (.based16 .bx .d0))))] = true := by decide

theorem test_decode_mov : reads [
    (m16, [0x88#8, 0xD1#8], .movRm8R8 (.reg .cl) .dl),
    (m16, [0x89#8, 0x5E#8, 0xFC#8], .movRmvRv (.mem (.based16 .bp (.d8 0xFC#8))) .ebx),
    (m16, [0x8A#8, 0x26#8, 0x34#8, 0x12#8], .movR8Rm8 .ah (.mem (.direct16 0x1234#16))),
    (m32, [0x8B#8, 0x44#8, 0x8D#8, 0x10#8], .movRvRmv .eax (.mem (.sib32 .x4 .ecx .ebp (.d8 0x10#8)))),
    (m16, [0x8C#8, 0xEB#8], .movRm16Sreg (.reg .ebx) .gs),
    (m16, [0x8E#8, 0xD0#8], .movSregRm16 .ss (.reg .eax)),
    (m16, [0xA0#8, 0x34#8, 0x12#8], .movAlMoffs (.o16 0x1234#16)),
    (m32, [0xA1#8, 0x78#8, 0x56#8, 0x34#8, 0x12#8], .movEaxMoffs (.o32 0x12345678#32)),
    (m16, [0xA2#8, 0x34#8, 0x12#8], .movMoffsAl (.o16 0x1234#16)),
    (m16, [0xA3#8, 0x34#8, 0x12#8], .movMoffsEax (.o16 0x1234#16)),
    (m16, [0xB4#8, 0x7F#8], .movR8Imm8 .ah 0x7F#8),
    (m16, [0xBF#8, 0x34#8, 0x12#8], .movRvImm .edi (.i16 0x1234#16)),
    (m16, [0xC6#8, 0x06#8, 0x34#8, 0x12#8, 0x56#8], .movRm8Imm8 (.mem (.direct16 0x1234#16)) 0x56#8),
    (m32, [0xC7#8, 0x04#8, 0x25#8, 0x04#8, 0x03#8, 0x02#8, 0x01#8, 0x78#8, 0x56#8, 0x34#8, 0x12#8], .movRmvImm (.mem (.sibNoBase .x1 .esp 0x01020304#32)) (.i32 0x12345678#32)),
    (m16, [0x0F#8, 0x20#8, 0xD1#8], .movR32Cr 3#2 .ecx .cr2),
    (m16, [0x0F#8, 0x22#8, 0xDA#8], .movCrR32 3#2 .cr3 .edx),
    (m16, [0x0F#8, 0x21#8, 0xF8#8], .movR32Dr 3#2 .eax 7),
    (m16, [0x0F#8, 0x23#8, 0x06#8], .movDrR32 0#2 0 .esi),
    (m16, [0x0F#8, 0x24#8, 0xDD#8], .movR32Tr 3#2 .ebp 3),
    (m16, [0x0F#8, 0x26#8, 0xFC#8], .movTrR32 3#2 7 .esp)] = true := by decide

theorem test_decode_add : reads [
    (m16, [0x00#8, 0xD1#8], .addRm8R8 (.reg .cl) .dl),
    (m16, [0x01#8, 0x08#8], .addRmvRv (.mem (.based16 .bxSi .d0)) .ecx),
    (m16, [0x02#8, 0xB2#8, 0x34#8, 0x12#8], .addR8Rm8 .dh (.mem (.based16 .bpSi (.d16 0x1234#16)))),
    (m16, [0x03#8, 0xF7#8], .addRvRmv .esi (.reg .edi)),
    (m16, [0x04#8, 0x80#8], .addAlImm8 0x80#8),
    (m32, [0x05#8, 0x78#8, 0x56#8, 0x34#8, 0x12#8], .addEaxImm (.i32 0x12345678#32)),
    (m16, [0x80#8, 0xC1#8, 0x02#8], .addRm8Imm8 (.reg .cl) 0x02#8),
    (m16, [0x81#8, 0xC2#8, 0x34#8, 0x12#8], .addRmvImm (.reg .edx) (.i16 0x1234#16)),
    (m16, [0x82#8, 0xC3#8, 0x02#8], .addRm8Imm8Alias (.reg .bl) 0x02#8),
    (m16, [0x83#8, 0x05#8, 0xFF#8], .addRmvImm8 (.mem (.based16 .di .d0)) 0xFF#8)] = true := by decide

theorem test_decode_or : reads [
    (m16, [0x08#8, 0xD1#8], .orRm8R8 (.reg .cl) .dl),
    (m16, [0x09#8, 0x08#8], .orRmvRv (.mem (.based16 .bxSi .d0)) .ecx),
    (m16, [0x0A#8, 0xB2#8, 0x34#8, 0x12#8], .orR8Rm8 .dh (.mem (.based16 .bpSi (.d16 0x1234#16)))),
    (m16, [0x0B#8, 0xF7#8], .orRvRmv .esi (.reg .edi)),
    (m16, [0x0C#8, 0x80#8], .orAlImm8 0x80#8),
    (m32, [0x0D#8, 0x78#8, 0x56#8, 0x34#8, 0x12#8], .orEaxImm (.i32 0x12345678#32)),
    (m16, [0x80#8, 0xC9#8, 0x02#8], .orRm8Imm8 (.reg .cl) 0x02#8),
    (m16, [0x81#8, 0xCA#8, 0x34#8, 0x12#8], .orRmvImm (.reg .edx) (.i16 0x1234#16)),
    (m16, [0x82#8, 0xCB#8, 0x02#8], .orRm8Imm8Alias (.reg .bl) 0x02#8),
    (m16, [0x83#8, 0x0D#8, 0xFF#8], .orRmvImm8 (.mem (.based16 .di .d0)) 0xFF#8)] = true := by decide

theorem test_decode_adc : reads [
    (m16, [0x10#8, 0xD1#8], .adcRm8R8 (.reg .cl) .dl),
    (m16, [0x11#8, 0x08#8], .adcRmvRv (.mem (.based16 .bxSi .d0)) .ecx),
    (m16, [0x12#8, 0xB2#8, 0x34#8, 0x12#8], .adcR8Rm8 .dh (.mem (.based16 .bpSi (.d16 0x1234#16)))),
    (m16, [0x13#8, 0xF7#8], .adcRvRmv .esi (.reg .edi)),
    (m16, [0x14#8, 0x80#8], .adcAlImm8 0x80#8),
    (m32, [0x15#8, 0x78#8, 0x56#8, 0x34#8, 0x12#8], .adcEaxImm (.i32 0x12345678#32)),
    (m16, [0x80#8, 0xD1#8, 0x02#8], .adcRm8Imm8 (.reg .cl) 0x02#8),
    (m16, [0x81#8, 0xD2#8, 0x34#8, 0x12#8], .adcRmvImm (.reg .edx) (.i16 0x1234#16)),
    (m16, [0x82#8, 0xD3#8, 0x02#8], .adcRm8Imm8Alias (.reg .bl) 0x02#8),
    (m16, [0x83#8, 0x15#8, 0xFF#8], .adcRmvImm8 (.mem (.based16 .di .d0)) 0xFF#8)] = true := by decide

theorem test_decode_sbb : reads [
    (m16, [0x18#8, 0xD1#8], .sbbRm8R8 (.reg .cl) .dl),
    (m16, [0x19#8, 0x08#8], .sbbRmvRv (.mem (.based16 .bxSi .d0)) .ecx),
    (m16, [0x1A#8, 0xB2#8, 0x34#8, 0x12#8], .sbbR8Rm8 .dh (.mem (.based16 .bpSi (.d16 0x1234#16)))),
    (m16, [0x1B#8, 0xF7#8], .sbbRvRmv .esi (.reg .edi)),
    (m16, [0x1C#8, 0x80#8], .sbbAlImm8 0x80#8),
    (m32, [0x1D#8, 0x78#8, 0x56#8, 0x34#8, 0x12#8], .sbbEaxImm (.i32 0x12345678#32)),
    (m16, [0x80#8, 0xD9#8, 0x02#8], .sbbRm8Imm8 (.reg .cl) 0x02#8),
    (m16, [0x81#8, 0xDA#8, 0x34#8, 0x12#8], .sbbRmvImm (.reg .edx) (.i16 0x1234#16)),
    (m16, [0x82#8, 0xDB#8, 0x02#8], .sbbRm8Imm8Alias (.reg .bl) 0x02#8),
    (m16, [0x83#8, 0x1D#8, 0xFF#8], .sbbRmvImm8 (.mem (.based16 .di .d0)) 0xFF#8)] = true := by decide

theorem test_decode_and : reads [
    (m16, [0x20#8, 0xD1#8], .andRm8R8 (.reg .cl) .dl),
    (m16, [0x21#8, 0x08#8], .andRmvRv (.mem (.based16 .bxSi .d0)) .ecx),
    (m16, [0x22#8, 0xB2#8, 0x34#8, 0x12#8], .andR8Rm8 .dh (.mem (.based16 .bpSi (.d16 0x1234#16)))),
    (m16, [0x23#8, 0xF7#8], .andRvRmv .esi (.reg .edi)),
    (m16, [0x24#8, 0x80#8], .andAlImm8 0x80#8),
    (m32, [0x25#8, 0x78#8, 0x56#8, 0x34#8, 0x12#8], .andEaxImm (.i32 0x12345678#32)),
    (m16, [0x80#8, 0xE1#8, 0x02#8], .andRm8Imm8 (.reg .cl) 0x02#8),
    (m16, [0x81#8, 0xE2#8, 0x34#8, 0x12#8], .andRmvImm (.reg .edx) (.i16 0x1234#16)),
    (m16, [0x82#8, 0xE3#8, 0x02#8], .andRm8Imm8Alias (.reg .bl) 0x02#8),
    (m16, [0x83#8, 0x25#8, 0xFF#8], .andRmvImm8 (.mem (.based16 .di .d0)) 0xFF#8)] = true := by decide

theorem test_decode_sub : reads [
    (m16, [0x28#8, 0xD1#8], .subRm8R8 (.reg .cl) .dl),
    (m16, [0x29#8, 0x08#8], .subRmvRv (.mem (.based16 .bxSi .d0)) .ecx),
    (m16, [0x2A#8, 0xB2#8, 0x34#8, 0x12#8], .subR8Rm8 .dh (.mem (.based16 .bpSi (.d16 0x1234#16)))),
    (m16, [0x2B#8, 0xF7#8], .subRvRmv .esi (.reg .edi)),
    (m16, [0x2C#8, 0x80#8], .subAlImm8 0x80#8),
    (m32, [0x2D#8, 0x78#8, 0x56#8, 0x34#8, 0x12#8], .subEaxImm (.i32 0x12345678#32)),
    (m16, [0x80#8, 0xE9#8, 0x02#8], .subRm8Imm8 (.reg .cl) 0x02#8),
    (m16, [0x81#8, 0xEA#8, 0x34#8, 0x12#8], .subRmvImm (.reg .edx) (.i16 0x1234#16)),
    (m16, [0x82#8, 0xEB#8, 0x02#8], .subRm8Imm8Alias (.reg .bl) 0x02#8),
    (m16, [0x83#8, 0x2D#8, 0xFF#8], .subRmvImm8 (.mem (.based16 .di .d0)) 0xFF#8)] = true := by decide

theorem test_decode_xor : reads [
    (m16, [0x30#8, 0xD1#8], .xorRm8R8 (.reg .cl) .dl),
    (m16, [0x31#8, 0x08#8], .xorRmvRv (.mem (.based16 .bxSi .d0)) .ecx),
    (m16, [0x32#8, 0xB2#8, 0x34#8, 0x12#8], .xorR8Rm8 .dh (.mem (.based16 .bpSi (.d16 0x1234#16)))),
    (m16, [0x33#8, 0xF7#8], .xorRvRmv .esi (.reg .edi)),
    (m16, [0x34#8, 0x80#8], .xorAlImm8 0x80#8),
    (m32, [0x35#8, 0x78#8, 0x56#8, 0x34#8, 0x12#8], .xorEaxImm (.i32 0x12345678#32)),
    (m16, [0x80#8, 0xF1#8, 0x02#8], .xorRm8Imm8 (.reg .cl) 0x02#8),
    (m16, [0x81#8, 0xF2#8, 0x34#8, 0x12#8], .xorRmvImm (.reg .edx) (.i16 0x1234#16)),
    (m16, [0x82#8, 0xF3#8, 0x02#8], .xorRm8Imm8Alias (.reg .bl) 0x02#8),
    (m16, [0x83#8, 0x35#8, 0xFF#8], .xorRmvImm8 (.mem (.based16 .di .d0)) 0xFF#8)] = true := by decide

theorem test_decode_inc_dec : reads [
    (m16, [0x47#8], .incRv .edi),
    (m16, [0xFE#8, 0xC4#8], .incRm8 (.reg .ah)),
    (m16, [0xFF#8, 0x04#8], .incRmv (.mem (.based16 .si .d0))),
    (m16, [0x49#8], .decRv .ecx),
    (m16, [0xFE#8, 0xC8#8], .decRm8 (.reg .al)),
    (m16, [0xFF#8, 0xC9#8], .decRmv (.reg .ecx))] = true := by decide

theorem test_decode_shift : reads [
    (m16, [0xC0#8, 0xE1#8, 0x03#8], .shlRm8Imm8 (.reg .cl) 0x03#8),
    (m16, [0xC1#8, 0xE2#8, 0x1F#8], .shlRmvImm8 (.reg .edx) 0x1F#8),
    (m16, [0xD0#8, 0xE3#8], .shlRm8One (.reg .bl)),
    (m16, [0xD1#8, 0x27#8], .shlRmvOne (.mem (.based16 .bx .d0))),
    (m16, [0xD2#8, 0xE4#8], .shlRm8Cl (.reg .ah)),
    (m16, [0xD3#8, 0xE0#8], .shlRmvCl (.reg .eax)),
    (m16, [0xC0#8, 0xE9#8, 0x03#8], .shrRm8Imm8 (.reg .cl) 0x03#8),
    (m16, [0xC1#8, 0xEA#8, 0x1F#8], .shrRmvImm8 (.reg .edx) 0x1F#8),
    (m16, [0xD0#8, 0xEB#8], .shrRm8One (.reg .bl)),
    (m16, [0xD1#8, 0x2F#8], .shrRmvOne (.mem (.based16 .bx .d0))),
    (m16, [0xD2#8, 0xEC#8], .shrRm8Cl (.reg .ah)),
    (m16, [0xD3#8, 0xE8#8], .shrRmvCl (.reg .eax))] = true := by decide

theorem test_decode_stack : reads [
    (m16, [0x54#8], .pushRv .esp),
    (m16, [0xFF#8, 0x37#8], .pushRmv (.mem (.based16 .bx .d0))),
    (m16, [0x68#8, 0x34#8, 0x12#8], .pushImm (.i16 0x1234#16)),
    (m16, [0x6A#8, 0x80#8], .pushImm8 0x80#8),
    (m16, [0x06#8], .pushEs),
    (m16, [0x0E#8], .pushCs),
    (m16, [0x16#8], .pushSs),
    (m16, [0x1E#8], .pushDs),
    (m16, [0x0F#8, 0xA0#8], .pushFs),
    (m16, [0x0F#8, 0xA8#8], .pushGs),
    (m16, [0x07#8], .popEs),
    (m16, [0x17#8], .popSs),
    (m16, [0x1F#8], .popDs),
    (m16, [0x0F#8, 0xA1#8], .popFs),
    (m16, [0x0F#8, 0xA9#8], .popGs),
    (m16, [0x5B#8], .popRv .ebx),
    (m32, [0x8F#8, 0x04#8, 0x24#8], .popRmv (.mem (.sib32 .x1 .esp .esp .d0)))] = true := by decide

theorem test_decode_tables : reads [
    (m16, [0x0F#8, 0x01#8, 0x17#8], .lgdt (.based16 .bx .d0)),
    (m16, [0x0F#8, 0x01#8, 0x1E#8, 0x00#8, 0x10#8], .lidt (.direct16 0x1000#16))] = true := by decide

theorem test_decode_refusals :
    decode m16 [0x8E#8, 0xC8#8] = .error (.segmentField 0x8E#8 1) ∧
    decode m16 [0x8C#8, 0xF0#8] = .error (.segmentField 0x8C#8 6) ∧
    decode m16 [0x0F#8, 0x20#8, 0xC8#8] = .error (.controlRegister 1) ∧
    decode m16 [0x0F#8, 0x23#8, 0xE0#8] = .error (.debugRegister 4) ∧
    decode m16 [0x0F#8, 0x24#8, 0xD0#8] = .error (.testRegister 2) ∧
    decode m16 [0x0F#8, 0x01#8, 0xD0#8] = .error .memoryOnly ∧
    decode m16 [0x80#8, 0xF8#8, 0x00#8] = .error (.notInGroup 0x80#8 7) ∧
    decode m16 [0xF0#8, 0x00#8, 0xC0#8] = .error .lockNotAllowed ∧
    decode m16 [0x3C#8, 0x00#8] = .error (.notARow 0x3C#8) ∧
    decode m16 [0x0F#8, 0x0B#8] = .error (.notARow0F 0x0B#8) ∧
    decode m16 [0x05#8, 0x01#8] = .error .truncated := by decide

/-! ## Single steps, with results from spec/95_test_vectors.md and the rules' own examples -/

/-- The vectors' base state: reset, CS loaded in real mode with 0x1000, EIP 0. -/
def base : State :=
  { State.reset with eip := 0, seg := { State.reset.seg with cs := realSegment 0x1000#16 } }

/-- The base state with general registers changed. -/
def withGpr (g : GprFile) : State := { base with gpr := g }

/-- The next state, if `exec` answers one. -/
def after (i : Instr) (s : State) : Option State :=
  match exec i s with
  | .next t => some t
  | .fault _ => none
  | .refused _ => none

def zeroGpr : GprFile := ⟨0, 0, 0, 0, 0, 0, 0, 0⟩

/-- R192: ADD AX, 1 with AX = FFFF. -/
theorem test_add_wraps :
    ((after (.addEaxImm (.i16 1#16)) (withGpr { zeroGpr with eax := 0x0000FFFF#32 })).map fun t =>
      (t.gpr.eax, t.eflags, t.eip)) = some (0x00000000#32, 0x00000057#32, 0x00000003#32) := by decide

/-- R194: ADC AL, FF with AL = 01 and CF = 1. -/
theorem test_adc_carry_in :
    ((after (.adcAlImm8 0xFF#8) { withGpr { zeroGpr with eax := 1 } with eflags := 0x00000003#32 }).map fun t =>
      (t.gpr.eax, t.eflags)) = some (0x00000001#32, 0x00000013#32) := by decide

/-- R197: SUB EAX, 1 (83 E8 01) with EAX = 0; flags other than AF, which is a free value. -/
theorem test_sub_borrows :
    ((after (.opsize (.subRmvImm8 (.reg .eax) 1#8)) base).map fun t => t.gpr.eax) = some 0xFFFFFFFF#32 := by decide

/-- R188: CF, OF, SF, ZF and PF of 80 - 01 at width 8. -/
theorem test_sub_overflow :
    (subCore 0x80#8 0x01#8 false).r = 0x7F#8 ∧ (subCore 0x80#8 0x01#8 false).cf = false ∧
    (subCore 0x80#8 0x01#8 false).of = true := by decide

/-- R195: SBB AL, 0 with AL = 0 and CF = 1. -/
theorem test_sbb_borrow_in :
    ((after (.sbbAlImm8 0#8) { base with eflags := 0x00000003#32 }).map fun t => t.gpr.eax) = some 0x000000FF#32 := by
  decide

/-- R193: OR AL, 01 with AL = 10; AF kept. -/
theorem test_or_keeps_af :
    ((after (.orAlImm8 1#8) { withGpr { zeroGpr with eax := 0x10 } with eflags := 0x00000813#32 }).map fun t =>
      (t.gpr.eax, t.eflags)) = some (0x00000011#32, 0x00000016#32) := by decide

/-- R196: 83 /4 with F0 masks with FFF0. -/
theorem test_and_sign_extends :
    ((after (.andRmvImm8 (.reg .eax) 0xF0#8) (withGpr { zeroGpr with eax := 0x12345678#32 })).map fun t => t.gpr.eax) =
      some 0x12345670#32 := by decide

/-- R198: XOR EAX, EAX. -/
theorem test_xor_self :
    ((after (.opsize (.xorRmvRv (.reg .eax) .eax)) (withGpr { zeroGpr with eax := 0x12345678#32 })).map fun t =>
      (t.gpr.eax, t.eflags)) = some (0#32, 0x00000046#32) := by decide

/-- R199: INC AL with AL = 0F and CF = 1. -/
theorem test_inc_keeps_carry :
    ((after (.incRm8 (.reg .al)) { withGpr { zeroGpr with eax := 0x0F } with eflags := 0x00000003#32 }).map fun t =>
      (t.gpr.eax, t.eflags)) = some (0x00000010#32, 0x00000013#32) := by decide

/-- R200: DEC CX with CX = 0 leaves ECX[31:16]. -/
theorem test_dec_wraps :
    ((after (.decRv .ecx) (withGpr { zeroGpr with ecx := 0xABCD0000#32 })).map fun t => t.gpr.ecx) =
      some 0xABCDFFFF#32 := by decide

/-- R211: SHL AX, 1 with AX = 4000. -/
theorem test_shl_sign_change :
    ((after (.shlRmvOne (.reg .eax)) (withGpr { zeroGpr with eax := 0x4000 })).map fun t => (t.gpr.eax, t.eflags)) =
      some (0x00008000#32, 0x00000886#32) := by decide

/-- R213: SHL AX, 2 with AX = 4000 and OF = 1 before. -/
theorem test_shl_two_keeps_of :
    ((after (.shlRmvImm8 (.reg .eax) 2#8) { withGpr { zeroGpr with eax := 0x4000 } with eflags := 0x00000802#32 }).map
      fun t => (t.gpr.eax, t.eflags)) = some (0x00000000#32, 0x00000847#32) := by decide

/-- R212: SHR AL, 1 with AL = 81. -/
theorem test_shr_one :
    ((after (.shrRm8One (.reg .al)) (withGpr { zeroGpr with eax := 0x81 })).map fun t => (t.gpr.eax, t.eflags)) =
      some (0x00000040#32, 0x00000803#32) := by decide

/-- R211: SHL CL, CL uses the old CL; a count of 32 changes nothing. -/
theorem test_shl_count_is_read_first :
    ((after (.shlRm8Cl (.reg .cl)) (withGpr { zeroGpr with ecx := 3 })).map fun t => t.gpr.ecx) = some 0x00000018#32 ∧
    ((after (.shlRmvCl (.reg .eax)) (withGpr { zeroGpr with ecx := 32, eax := 5 })).map fun t =>
      (t.gpr.eax, t.eflags)) = some (5#32, 2#32) := by decide

/-- R175: MOV BL, AH with EAX = 11223344 and EBX = AABBCCDD. -/
theorem test_mov_high_byte :
    ((after (.movRm8R8 (.reg .bl) .ah) (withGpr { zeroGpr with eax := 0x11223344, ebx := 0xAABBCCDD })).map fun t =>
      t.gpr.ebx) = some 0xAABBCC33#32 := by decide

/-- R180: MOV WORD PTR [BX], 8001 with DS.base = 12340 and BX = 10. -/
theorem test_mov_stores_low_byte_first :
    ((after (.movRmvImm (.mem (.based16 .bx .d0)) (.i16 0x8001#16))
        { withGpr { zeroGpr with ebx := 0x10 } with seg := { base.seg with ds := realSegment 0x1234#16 } }).map fun t =>
      t.mem.cells) = some [(0x12350, 0x01#8), (0x12351, 0x80#8)] := by decide

/-- R71: a 16-bit read at offset FFFF takes its second byte from base + 10000. -/
theorem test_offset_wraps_increment_does_not :
    ((after (.movRvRmv .eax (.mem (.based16 .bx .d0)))
        { withGpr { zeroGpr with ebx := 0xFFFF } with mem := ⟨[(0, 0x11#8), (0xFFFF, 0x34#8), (0x10000, 0x12#8)]⟩ }).map
      fun t => t.gpr.eax) = some 0x00001234#32 := by decide

/-- R152: MOV DS, AX in real mode with AX = 1234; and with a 66 prefix (R105: size 32) still the 16-bit register. -/
theorem test_mov_ds_real_mode :
    ((after (.movSregRm16 .ds (.reg .eax)) (withGpr { zeroGpr with eax := 0x1234 })).map fun t =>
      (t.seg.ds, t.holdIRQ)) = some (⟨0x1234#16, 0x00012340#32, 0x0000FFFF#32, .s16, .s16⟩, false) ∧
    ((after (.opsize (.movSregRm16 .ds (.reg .eax))) (withGpr { zeroGpr with eax := 0x56781234 })).map fun t =>
      t.seg.ds.selector) = some 0x1234#16 ∧
    (Instr.record m16 {} (.opsize (.movSregRm16 .ds (.reg .eax)))).osz = .w32 := by decide

/-- R144: a 4 GiB flat 32-bit descriptor, index 1, loaded into SS in protected mode. -/
theorem test_mov_ss_protected_mode :
    ((after (.movSregRm16 .ss (.reg .eax))
        { withGpr { zeroGpr with eax := 8 } with
          cr := { base.cr with cr0 := 0x60000011 }
          mem := ⟨[(8, 0xFF#8), (9, 0xFF#8), (12, 0x12#8), (13, 0x92#8), (14, 0xCF#8), (15, 0x80#8)]⟩ }).map fun t =>
      (t.seg.ss, t.holdIRQ)) = some (⟨8#16, 0x80120000#32, 0xFFFFFFFF#32, .s32, .s32⟩, true) := by decide

/-- R147: TI = 1 in protected mode. -/
theorem test_mov_ldt_selector_fails :
    (match exec (.movSregRm16 .ds (.reg .eax))
        { withGpr { zeroGpr with eax := 0x000C } with cr := { base.cr with cr0 := 0x60000011 } } with
      | .fault e => some e
      | _ => none) = some (.unsupportedFeature .ldtSelector 0x000C#16) := by decide

/-- R170 and R39: MOV CR0, EAX leaves the segment caches. -/
theorem test_mov_cr0 :
    ((after (.movCrR32 3 .cr0 .eax) (withGpr { zeroGpr with eax := 0x60000011 })).map fun t =>
      (t.cr.cr0, t.seg == base.seg, t.pe)) = some (0x60000011#32, true, true) := by decide

/-- R181: reset state, MOV AX, CS gives F000; with a 32-bit register the selector is zero-extended. -/
theorem test_mov_from_cs :
    ((after (.movRm16Sreg (.reg .eax) .cs) State.reset).map fun t => t.gpr.eax) = some 0x0000F000#32 ∧
    ((after (.opsize (.movRm16Sreg (.reg .edx) .cs)) State.reset).map fun t => t.gpr.edx) = some 0x0000F000#32 := by
  decide

/-- R77, R167: ADD byte [0], 1 and INC word [2] and SHL dword [4], 1 store 1, 2 and 4 bytes; the byte after stays. -/
theorem test_memory_destination_width :
    ((after (.addRm8Imm8 (.mem (.direct16 0)) 1#8) { base with mem := ⟨[(0, 0x41#8), (1, 0x77#8)]⟩ }).map fun t =>
      t.mem.cells) = some [(0, 0x42#8), (1, 0x77#8)] ∧
    ((after (.incRmv (.mem (.direct16 2))) { base with mem := ⟨[(2, 0xFF#8), (4, 0x77#8)]⟩ }).map fun t =>
      t.mem.cells) = some [(3, 0x01#8), (4, 0x77#8)] ∧
    ((after (.opsize (.shlRmvOne (.mem (.direct16 4)))) { base with mem := ⟨[(6, 0x80#8), (8, 0x77#8)]⟩ }).map fun t =>
      t.mem.cells) = some [(7, 0x01#8), (8, 0x77#8)] := by decide

/-- R220: PUSH AX writes low byte first and lowers SP. -/
theorem test_push_ax :
    ((after (.pushRv .eax) (withGpr { zeroGpr with eax := 0x11223344, esp := 0x100 })).map fun t =>
      (t.mem.cells, t.gpr.esp)) = some ([(0xFE, 0x44#8), (0xFF, 0x33#8)], 0x000000FE#32) := by decide

/-- R218: a 4-byte push with SP = 2 wraps the pointer, not the bytes. -/
theorem test_push_wraps :
    ((after (.opsize (.pushRv .eax)) (withGpr { zeroGpr with eax := 0x11223344, esp := 0xAAAA0002 })).map fun t =>
      (t.mem.cells.map Prod.fst, t.gpr.esp)) = some ([0xFFFE, 0xFFFF, 0x10000, 0x10001], 0xAAAAFFFE#32) := by decide

/-- R225: POP DS. -/
theorem test_pop_ds :
    ((after .popDs { withGpr { zeroGpr with esp := 0xFE } with mem := ⟨[(0xFF, 0x20#8)]⟩ }).map fun t =>
      (t.seg.ds.base, t.gpr.esp)) = some (0x00020000#32, 0x00000100#32) := by decide

/-- R226: POP [ESP] stores at the new top. -/
theorem test_pop_to_esp_based :
    ((after (.adsize (.popRmv (.mem (.sib32 .x1 .esp .esp .d0))))
        { withGpr { zeroGpr with esp := 0x200 } with mem := ⟨[(0x200, 0x05#8)]⟩ }).map fun t =>
      (t.mem.cells, t.gpr.esp)) = some ([(0x200, 0x05#8), (0x202, 0x05#8)], 0x00000202#32) := by decide

/-- R150: image FF 00 00 10 00 00 at DS:0 with a 16-bit operand; R151: FF 03 00 00 0F 00 with a 32-bit one. -/
theorem test_lgdt_lidt :
    ((after (.lgdt (.direct16 0)) { base with mem := ⟨[(0, 0xFF#8), (3, 0x10#8), (5, 0x77#8)]⟩ }).map fun t => t.gdtr) =
      some ⟨0x00001000#32, 0x00FF#16⟩ ∧
    ((after (.opsize (.lidt (.direct16 0))) { base with mem := ⟨[(0, 0xFF#8), (1, 0x03#8), (4, 0x0F#8)]⟩ }).map fun t =>
      t.idtr) = some ⟨0x000F0000#32, 0x03FF#16⟩ := by decide

/-- R230: the source's own example. -/
theorem test_rep_check :
    (repCheck .rep .s16 (withGpr { zeroGpr with ecx := 0x00050000 })).cycles = some 5 ∧
    (repCheck .repne .s16 (withGpr { zeroGpr with ecx := 0x00050003 })).state.gpr.ecx = 0x00050002#32 ∧
    (repCheck .rep .s32 (withGpr { zeroGpr with ecx := 3 })).cycles = some 7 := by decide

/-- A word placed at the fetch address is what the next step runs: INC AX (40) from reset. -/
theorem test_step_runs_fetch_word :
    (match step (State.reset.withFetchWord 8 0x40) with
      | .next t => some (t.gpr.eax, t.eip)
      | _ => none) = some (1#32, 0x0000FFF1#32) := by decide

theorem test_decode_table_word : decodeTableWord 16 0x1606 = some .pushEs ∧
    decodeTableWord 24 0xD8220F = some (.movCrR32 3 .cr3 .eax) ∧ decodeTableWord 8 0x38 = none := by decide

/-- 30_encoding.md R124 for ADD BX, 5 (83 C3 05) at reset. -/
theorem test_disassembly_line :
    disassemblyLine Config.dumpFormatDefault State.reset (.addRmvImm8 (.reg .ebx) 5#8) =
      "F000:FFF0 83C305                        ADD BX, 0x05" := by decide

/-! ## Each statement's hypotheses are met -/

/-- Protected mode, GDT at linear 0. -/
def prot : State := { base with cr := { base.cr with cr0 := 0x60000011 } }

/-- Protected mode, AX an LDT selector. -/
def protLdt : State := { prot with gpr := { zeroGpr with eax := 0x000C } }

/-- The base state with bytes at CS:EIP. -/
def withCode (bs : List Byte) : State := { base with mem := base.mem.writeFrom 0x00010000#32 bs }

/-- MOV DS, AX. -/
def movDs : Instr := .movSregRm16 .ds (.reg .eax)

/-- MOV SS, AX. -/
def movSs : Instr := .movSregRm16 .ss (.reg .eax)

theorem witness_DecodeOfEncode :
    (Instr.lock (.segSs (.addRm8R8 (.mem (.based16 .bp (.d8 0xFF#8))) .bh))).wf m16 = true := by decide

theorem witness_EncodeOfDecode : ∃ i, decode m16 [0x66#8, 0x67#8, 0xFF#8, 0x34#8, 0x24#8, 0x90#8] = .ok i :=
  ⟨_, rfl⟩

theorem witness_RefusedEncodings :
    ([([0x8C#8], 0xF0#8), ([0x8C#8], 0xFF#8), ([0x8E#8], 0xC8#8), ([0x8E#8], 0xF0#8), ([0x8E#8], 0x3F#8),
      ([0x0F#8, 0x20#8], 0xC8#8), ([0x0F#8, 0x20#8], 0xE0#8), ([0x0F#8, 0x22#8], 0xF8#8), ([0x0F#8, 0x21#8], 0xE0#8),
      ([0x0F#8, 0x23#8], 0xE8#8), ([0x0F#8, 0x24#8], 0xC0#8), ([0x0F#8, 0x26#8], 0xD0#8), ([0x0F#8, 0x01#8], 0xD0#8),
      ([0x0F#8, 0x01#8], 0xDF#8), ([0xFE#8], 0xD0#8), ([0xFE#8], 0x38#8), ([0x8F#8], 0xC8#8), ([0xC6#8], 0x08#8),
      ([0xC7#8], 0xF8#8)] : List (List Byte × Byte)).all (fun x => refusedEncoding x.1 x.2) = true ∧
    ∃ i, decode m16 [0xF0#8, 0x00#8, 0x07#8] = .ok i ∧ (Instr.record m16 {} i).lock = true :=
  ⟨by decide, _, rfl, rfl⟩

theorem witness_PrefixesOnTheRecord_fixed :
    (Instr.addAlImm8 1#8).isPlain = true ∧ (Instr.record m16 {} (.addAlImm8 1#8)).fixedWidth ∧
    (Instr.record m16 {} (.movCrR32 3 .cr0 .eax)).fixedWidth :=
  ⟨rfl, .inl rfl, .inr ⟨44, .head _, .inr ⟨by decide, by decide⟩⟩⟩

theorem witness_PrefixesOnTheRecord_sized :
    (Instr.pushImm8 1#8).isPlain = true ∧ ¬ (Instr.record m16 {} (.pushImm8 1#8)).fixedWidth := by
  refine ⟨rfl, ?_⟩
  rintro (h | ⟨id, h, -⟩)
  · exact absurd h (by decide)
  · have h' : Operand.reg id ∈ [imm8Operand 1#8] := h
    simp [imm8Operand] at h'

theorem witness_StepRunsDecodedInstruction :
    base.halt = false ∧ decode base.codeMode base.fetch = .ok (.addRm8R8 (.mem (.based16 .bxSi .d0)) .al) := by decide

theorem witness_StepRunsInstructionInMemory :
    (withCode [0x0F#8, 0xA0#8]).halt = false ∧ Instr.pushFs.wf (withCode [0x0F#8, 0xA0#8]).codeMode = true ∧
    ∀ k, k < Instr.pushFs.encode.length →
      some ((withCode [0x0F#8, 0xA0#8]).mem.read
        ((withCode [0x0F#8, 0xA0#8]).seg.cs.base + (withCode [0x0F#8, 0xA0#8]).eip + BitVec.ofNat 32 k)) =
        Instr.pushFs.encode[k]? := by decide

theorem witness_HaltedAndUndecodableSteps :
    { base with halt := true }.halt = true ∧ (withCode [0x38#8]).halt = false ∧
    decode (withCode [0x38#8]).codeMode (withCode [0x38#8]).fetch = .error (.notARow 0x38#8) := by decide

theorem witness_StepKeepsInvariant : base.inv = true ∧ ∃ t, step base = .next t := ⟨by decide, _, rfl⟩

theorem witness_WriteThroughView : (1 ≤ 1 ∧ 1 ≤ 24) ∧ 1 ≤ 24 ∧ 24 ≤ 24 := by decide

theorem witness_PrefixesOnTheRecord_map :
    (Instr.addRmvImm (.mem (.sib32 .x4 .ecx .ebp (.d8 0xFC#8))) (.i32 0x80000001#32)).isPlain = true ∧
    (withPrefixes [.lock, .opsize, .es, .adsize]
      (.addRmvImm (.mem (.sib32 .x4 .ecx .ebp (.d8 0xFC#8))) (.i32 0x80000001#32))).wf m16 = true := by decide

/-- R118 has 127 rows beside the 11 prefixes, no two of one opcode and digit. -/
theorem test_opcode_map_rows :
    opcodeMap.length = 127 ∧ (opcodeMap.map fun x => (x.opcode, x.digit)).Nodup := by decide +kernel

/-- R107 to R112: 81 44 8D FC, a SIB form with EBP, ECX * 4 and the displacement -4. -/
theorem test_memory_at :
    memoryAt .s32 [0x81#8, 0x44#8, 0x8D#8, 0xFC#8] 1 = .mem (some 22) (some 18) 4 0xFFFFFFFC#32 .s32 ∧
    memoryAt .s16 [0x8B#8, 0x06#8, 0x34#8, 0x12#8] 1 = .mem none none 1 0x00001234#32 .s16 := by decide +kernel

theorem witness_ReadByRegisterId : (0 = 0 ∨ 56 ≤ 0) ∧ (56 = 0 ∨ 56 ≤ 56) := by decide

theorem witness_WriteByRegisterId : (1 < 32 ∧ 31 < 32) ∧ (56 = 0 ∨ 56 ≤ 56) := by decide

theorem witness_FlagAccessors : Flag.cf.pos < 32 ∧ 31 < 32 := by decide

theorem witness_SegmentAccess :
    (List.replicate 10 0x5A#8 : List Byte).length ≤ 10 ∧ ([] : List Byte).length ≤ 10 ∧ 9 < 10 ∧
    (∀ k, k < 10 → (0x20000#32 : Word) ≠ BitVec.ofNat 32 (0x0000FFFF + k)) ∧
    9 + 1 ≤ (List.replicate 10 0x5A#8 : List Byte).length := by decide

theorem witness_EvaluateGivesTheValue :
    (Instr.record m16 {} (.addRm8R8 (.mem (.direct16 4)) .ah)).operand 1 = .reg 5 ∧
    (Instr.record m16 {} (.addRm8R8 (.mem (.direct16 4)) .ah)).operand 0 = .mem none none 1 4 .s16 ∧
    (Instr.record m16 {} (.pushImm8 0x80#8)).operand 0 = .imm 0x80 1 ∧
    { Instr.record m16 {} .pushEs with opnd := [.far 1 2 4] }.operand 0 = .far 1 2 4 := by decide

/-- A record of the class with these operands. -/
def recordWith (op : OpClass) (opnd : List Operand) : Record := { Instr.record m16 {} (.movRmvRv (.reg .eax) .eax) with op, opnd }

theorem witness_InvalidOperandCauses :
    (Operand.imm 5 1).isConstant ∧ (Operand.far 0x1234#16 0x5678#32 2).isConstant ∧
    base.evaluate none .undefinedKind 1 = .error (.invalidOperand .undefinedKind .undefinedKind) ∧
    base.store none (.far 0x1234#16 0x5678#32 2) [] =
      .error (.invalidOperand .immediateDestination (.far 0x1234#16 0x5678#32 2)) ∧
    (0 = 0 ∨ 56 ≤ 0) ∧ (56 = 0 ∨ 56 ≤ 56) :=
  ⟨trivial, trivial, rfl, rfl, by decide, by decide⟩

/-- The clauses about whole records: a register for LGDT, an undefined kind in the second place of a shift, a constant
destination of ADD, a failure of a record that has its operands, and one that lacks an operand. -/
theorem witness_InvalidOperandCauses_records :
    ((recordWith .lgdt [.reg 9]).op = .lgdt ∧ (recordWith .lgdt [.reg 9]).opnd.head? = some (.reg 9) ∧
      ¬ (Operand.reg 9).isMem) ∧
    (1 < (recordWith .shl [.reg 9, .undefinedKind]).op.arity ∧
      (recordWith .shl [.reg 9, .undefinedKind]).opnd[1]? = some .undefinedKind) ∧
    ((recordWith .add [.imm 5 1, .reg 9]).op ∈
        [OpClass.mov, .add, .or, .adc, .sbb, .and, .sub, .xor, .inc, .dec, .pop] ∧
      (recordWith .add [.imm 5 1, .reg 9]).opnd.head? = some (.imm 5 1) ∧ (Operand.imm 5 1).isConstant ∧
      (recordWith .add [.imm 5 1, .reg 9]).op.arity ≤ (recordWith .add [.imm 5 1, .reg 9]).opnd.length ∧
      .undefinedKind ∉ (recordWith .add [.imm 5 1, .reg 9]).opnd) ∧
    runRecord (recordWith .add [.imm 5 1, .reg 9]) base =
      .fault (.invalidOperand .immediateDestination (.imm 5 1)) ∧
    (recordWith .pop []).opnd.length < (recordWith .pop []).op.arity :=
  ⟨⟨rfl, rfl, fun h => h⟩, ⟨by decide, rfl⟩, ⟨by decide, rfl, trivial, by decide, by decide⟩, rfl, by decide⟩

theorem witness_StoreOfEvaluateChangesNothing :
    base.mem.wf = true ∧ eflagsFixed base.eflags = true ∧ 10 ≤ 10 ∧ ¬ (27 ≤ 26 ∧ 26 ≤ 32) ∧ ¬ (27 ≤ 33 ∧ 33 ≤ 32) := by
  decide

theorem witness_RealModeLoad : base.cr.cr0.getLsbD 0 = false := by decide

theorem witness_SegmentLoadResult :
    (prot.cr.cr0.getLsbD 0 = true ∧ (4#16 : Half).toNat.testBit 2 = true) ∧
    ¬ (prot.cr.cr0.getLsbD 0 = true ∧ (3#16 : Half).toNat.testBit 2 = true) ∧
    ¬ (base.cr.cr0.getLsbD 0 = true ∧ (4#16 : Half).toNat.testBit 2 = true) := by decide

theorem witness_StackSegmentLoadHolds :
    (∃ t, base.loadSegment .ss 0x2000#16 = .ok t) ∧ ∃ t, prot.loadSegment .gs 8#16 = .ok t := ⟨⟨_, rfl⟩, _, rfl⟩

theorem witness_DescriptorTableLoads :
    ((base.recordOf (.lgdt (.direct16 4))).operand 0 = .mem none none 1 4 .s16 ∧
      (base.recordOf (.lgdt (.direct16 4))).op = .lgdt) ∧
    (base.recordOf (.lidt (.direct16 4))).operand 0 = .mem none none 1 4 .s16 ∧
      (base.recordOf (.lidt (.direct16 4))).op = .lidt := by decide

theorem witness_MovToRegisterOrMemory_register :
    (base.recordOf (.movR32Cr 3 .eax .cr0)).op = .mov ∧ (∀ x, ¬ (base.recordOf (.movR32Cr 3 .eax .cr0)).loads x) ∧
    ¬ (base.recordOf (.movR32Cr 3 .eax .cr0)).writesControl := by
  refine ⟨rfl, fun x h => ?_, fun ⟨id, h, hr⟩ => ?_⟩
  · cases x <;> exact absurd h.2 (by decide)
  · have h' : Operand.reg 17 = .reg id := h
    cases h'
    omega

theorem witness_MovToRegisterOrMemory_memory :
    (base.recordOf (.opsize (.movRm16Sreg (.mem (.direct16 0)) .cs))).op = .mov ∧
    (∀ x, ¬ (base.recordOf (.opsize (.movRm16Sreg (.mem (.direct16 0)) .cs))).loads x) ∧
    ¬ (base.recordOf (.opsize (.movRm16Sreg (.mem (.direct16 0)) .cs))).writesControl :=
  ⟨rfl, (fun _ h => by cases h.2), fun ⟨_, h, _⟩ => by cases h⟩

theorem real_loads_do_not_fail (r : Record) : ¬ base.loadFails r := fun h => absurd h.2.1 (by decide)

theorem witness_MovToSegmentRegister :
    (base.recordOf movSs).op = .mov ∧ (base.recordOf movSs).loads .ss ∧ Sreg.ss ≠ .cs ∧
    ¬ base.loadFails (base.recordOf movSs) := ⟨rfl, ⟨.inl rfl, rfl⟩, by decide, real_loads_do_not_fail _⟩

theorem witness_MovToSegmentRegister_protected :
    (prot.recordOf movDs).op = .mov ∧ (prot.recordOf movDs).loads .ds ∧ ¬ prot.loadFails (prot.recordOf movDs) :=
  ⟨rfl, ⟨.inl rfl, rfl⟩, fun h => absurd h.2.2 (by decide)⟩

theorem witness_AddAndAdc :
    (base.recordOf (.addAlImm8 1#8)).op = .add ∧
    (base.recordOf (.lock (.opsize (.adcRmvImm8 (.mem (.direct16 0)) 0xFF#8)))).op = .adc := by decide

theorem witness_SubAndSbb :
    (base.recordOf (.subRmvRv (.reg .eax) .ecx)).op = .sub ∧
    (base.recordOf (.sbbR8Rm8 .ah (.mem (.based16 .bx .d0)))).op = .sbb := by decide

theorem witness_AndOrXor :
    (base.recordOf (.andRm8Imm8Alias (.reg .al) 0#8)).op = .and ∧ (base.recordOf (.orEaxImm (.i16 1))).op = .or ∧
    (base.recordOf (.segFs (.xorRvRmv .eax (.mem (.direct16 0))))).op = .xor := by decide

theorem witness_Increment : (base.recordOf (.incRmv (.mem (.direct16 0)))).op = .inc := by decide

theorem witness_Decrement : (base.recordOf (.decRv .esp)).op = .dec := by decide

theorem witness_ShiftLeft :
    ((base.recordOf (.shlRm8One (.reg .al))).op = .shl ∧ base.sourceNat (base.recordOf (.shlRm8One (.reg .al))) 1 1 % 32 ≠ 0) ∧
    (base.recordOf (.shlRmvImm8 (.mem (.direct16 0)) 31#8)).op = .shl ∧
    base.sourceNat (base.recordOf (.shlRmvImm8 (.mem (.direct16 0)) 31#8)) 1 1 % 32 ≠ 0 := by decide

theorem witness_ShiftRight :
    ((base.recordOf (.shrRm8One (.reg .al))).op = .shr ∧ base.sourceNat (base.recordOf (.shrRm8One (.reg .al))) 1 1 % 32 ≠ 0) ∧
    (base.recordOf (.shrRmvImm8 (.mem (.direct16 0)) 31#8)).op = .shr ∧
    base.sourceNat (base.recordOf (.shrRmvImm8 (.mem (.direct16 0)) 31#8)) 1 1 % 32 ≠ 0 := by decide

theorem witness_ShiftByZero :
    ((base.recordOf (.shlRm8Cl (.reg .al))).op = .shl ∧ base.sourceNat (base.recordOf (.shlRm8Cl (.reg .al))) 1 1 % 32 = 0) ∧
    (base.recordOf (.shrRmvImm8 (.reg .eax) 32#8)).op = .shr ∧
    base.sourceNat (base.recordOf (.shrRmvImm8 (.reg .eax) 32#8)) 1 1 % 32 = 0 := by decide

theorem witness_PushStores : (base.recordOf .pushCs).op = .push ∧ (base.recordOf (.pushRv .esp)).op = .push := by decide

theorem witness_PopStores_register :
    (base.recordOf (.popRv .esp)).op = .pop ∧ ∀ x, ¬ (base.recordOf (.popRv .esp)).loads x :=
  ⟨rfl, fun x h => by cases x <;> exact absurd h.2 (by decide)⟩

theorem witness_PopStores_memory :
    (base.recordOf (.popRmv (.mem (.direct16 0)))).op = .pop ∧
    ∀ x, ¬ (base.recordOf (.popRmv (.mem (.direct16 0)))).loads x := ⟨rfl, fun _ h => by cases h.2⟩

theorem witness_PopLoadsSegment :
    (base.recordOf .popSs).op = .pop ∧ (base.recordOf .popSs).loads .ss ∧ ¬ base.loadFails (base.recordOf .popSs) ∧
    (prot.recordOf .popDs).loads .ds ∧ ¬ prot.loadFails (prot.recordOf .popDs) :=
  ⟨rfl, ⟨.inr rfl, rfl⟩, real_loads_do_not_fail _, ⟨.inr rfl, rfl⟩, fun h => absurd h.2.2 (by decide)⟩

theorem witness_PopAfterPush : ([0xEF#8, 0xBE#8] : List Byte).length = 2 ∧
    ([0xEF#8, 0xBE#8, 0xAD#8, 0xDE#8] : List Byte).length = 4 := by decide

theorem witness_EveryRowCompletes :
    ¬ base.loadFails (base.recordOf movDs) ∧ ¬ protLdt.loadFails (protLdt.recordOf (.pushRv .eax)) :=
  ⟨real_loads_do_not_fail _, fun ⟨⟨x, hx⟩, _⟩ => by cases x <;> exact absurd hx.2 (by decide)⟩

theorem witness_FailureIsLdtSelectorLoad : protLdt.loadFails (protLdt.recordOf movDs) :=
  ⟨⟨.ds, .inl rfl, rfl⟩, by decide, by decide⟩

theorem witness_EipMovesPastInstruction :
    ¬ (base.recordOf (.incRv .eax)).loads .cs ∧ ∃ t, exec (.incRv .eax) base = .next t :=
  ⟨fun h => absurd h.1 (by decide), _, rfl⟩

theorem witness_SystemStateWriters_control :
    (∃ t, exec (.movCrR32 3 .cr0 .eax) base = .next t ∧ t.cr.get .cr0 ≠ base.cr.get .cr0) ∧
    (∃ t, exec (.movDrR32 3 7 .eax) base = .next t ∧ t.dr.get 7 ≠ base.dr.get 7) ∧
    ∃ t, exec (.movTrR32 3 3 .eax) protLdt = .next t ∧ t.tr.get 3 ≠ protLdt.tr.get 3 :=
  ⟨⟨_, rfl, by decide⟩, ⟨_, rfl, by decide⟩, _, rfl, by decide⟩

theorem witness_SystemStateWriters_tables :
    (∃ t, exec (.lgdt (.direct16 0)) base = .next t ∧ t.gdtr ≠ base.gdtr) ∧
    ∃ t, exec (.lidt (.direct16 0)) base = .next t ∧ t.idtr ≠ base.idtr := ⟨⟨_, rfl, by decide⟩, _, rfl, by decide⟩

theorem witness_SystemStateWriters_segments :
    (∃ t, exec movDs protLdt.boundary = .fault t) ∧
    (∃ t, exec movSs { base with gpr := { zeroGpr with eax := 1 } } = .next t ∧ t.seg.get .ss ≠ base.seg.get .ss ∧
      t.holdIRQ ≠ base.holdIRQ) ∧
    ∃ t, exec (.orAlImm8 0#8) base = .next t ∧ t.eflags ≠ base.eflags :=
  ⟨⟨_, rfl⟩, ⟨_, rfl, by decide, by decide⟩, _, rfl, by decide⟩

theorem witness_OnlyStatusFlagsChange : ∃ t, exec (.subAlImm8 1#8) base = .next t := ⟨_, rfl⟩

theorem witness_OnlyCarryIsRead :
    getFlag 0xFFFFFFFE#32 .cf = getFlag base.eflags .cf ∧ (∃ t, exec (.adcAlImm8 0#8) base = .next t) ∧
    getFlag 0xFFFFFFFE#32 .cf = getFlag protLdt.eflags .cf ∧ ∃ f, exec movDs protLdt = .fault f :=
  ⟨by decide, ⟨_, rfl⟩, by decide, _, rfl⟩

theorem witness_RepAndLockDoNothing :
    ¬ (base.recordOf (.incRm8 (.mem (.direct16 0)))).loads .cs ∧
    (∃ t, exec (.incRm8 (.mem (.direct16 0))) base = .next t) ∧
    ¬ (protLdt.recordOf movDs).loads .cs ∧ ∃ e, exec movDs protLdt = .fault e :=
  ⟨fun h => absurd h.1 (by decide), ⟨_, rfl⟩, fun h => absurd h.2 (by decide), _, rfl⟩

theorem witness_StepNeverLoadsCs : ∃ t, step (withCode [0x17#8]) = .next t := ⟨_, rfl⟩

theorem witness_ModeChangesOnlyByMovCr0 :
    ∃ t, step { withCode [0x0F#8, 0x22#8, 0xC0#8] with gpr := { zeroGpr with eax := 0x60000011 } } = .next t ∧
      t.pe ≠ State.pe { withCode [0x0F#8, 0x22#8, 0xC0#8] with gpr := { zeroGpr with eax := 0x60000011 } } :=
  ⟨_, rfl, by decide⟩

theorem witness_InterruptWindow :
    { base with holdIRQ := true }.holdIRQ = true ∧ base.holdIRQ = false ∧ getFlag base.eflags .fIf = false ∧
    { base with eflags := 0x00000202#32 }.holdIRQ = false ∧ getFlag 0x00000202#32 .fIf = true := by decide

theorem witness_SsShadowLastsOneBoundary :
    ∃ t, exec movSs base = .next t ∧ (base.recordOf movSs).loads .ss ∧
      (∃ u, exec (.pushRv .eax) t.boundary = .next u) ∧ ∃ u, exec .popSs t.boundary = .next u :=
  ⟨_, rfl, ⟨.inl rfl, rfl⟩, ⟨_, rfl⟩, _, rfl⟩

theorem witness_RealModeDelivery : base.cr.cr0.getLsbD 0 = false := by decide

theorem witness_ReturnReversesDelivery :
    base.cr.cr0.getLsbD 0 = false ∧ eflagsFixed base.eflags = true ∧ ∃ t, base.deliver 8#8 = .next t :=
  ⟨by decide, by decide, _, rfl⟩

theorem witness_RepeatCheck :
    Rep.rep ≠ .absent ∧ Rep.repne ≠ .absent ∧
    State.registerValue { base with gpr := { zeroGpr with ecx := 0x00010000 } } 10 = 0 ∧
    State.registerValue { base with gpr := { zeroGpr with ecx := 0x00010000 } } 18 ≠ 0 := by decide

theorem witness_RepeatedInstructionEnds :
    (Instr.record m16 {} (.rep .pushEs)).rep ≠ .absent ∧
    (∀ u : State, ((fun u => (u, false)) u : State × Bool).1.gpr.ecx = u.gpr.ecx ∧
      ((fun u => (u, false)) u : State × Bool).1.eip = u.eip ∧
      ((fun u => (u, false)) u : State × Bool).1.seg.cs = u.seg.cs ∧ ((fun u => (u, false)) u : State × Bool).2 = false) ∧
    0 ≤ base.repCount .s16 := ⟨by decide, fun _ => ⟨rfl, rfl, rfl, rfl⟩, by decide⟩

end Sys2Proof.Tests
end

section
/-! A step and the instruction the decoder reads at CS:EIP (00_scope.md R3, 20_memory.md R73). -/

namespace Sys2Proof.Machine

/-- R3, R73: the driver runs the instruction the decoder reads at CS:EIP. -/
theorem runInstruction_of_decode_ok {s : State} {i : Instr} (hrun : s.halt = false)
    (hdec : decode s.codeMode s.fetch = .ok i) : s.runInstruction = exec i s := by
  simp [State.runInstruction, hrun, hdec]

/-- Settles O7: the boundary changes neither `halt` nor the code mode nor the bytes fetched, so the instruction decoded
before it is the one that runs after it (R245). -/
theorem stepRunsDecodedInstruction : Obligations.StepRunsDecodedInstruction := by
  intro s i hrun hdec
  have hrun' : s.boundary.halt = false := by rwa [boundary_halt]
  have hdec' : decode s.boundary.codeMode s.boundary.fetch = .ok i := by rwa [codeMode_boundary, boundary_fetch]
  exact runInstruction_of_decode_ok hrun' hdec'

end Sys2Proof.Machine
end

section
/-! The invariant of the machine, kept by every operation an instruction is made of (10_state.md R31, R32;
90_conflicts.md C5). -/

namespace Sys2Proof.Machine

/-- The parts of `State.inv` that do not speak of EIP, the segment registers by name. -/
def State.sound (s : State) : Prop :=
  s.mem.wf = true ∧ eflagsFixed s.eflags = true ∧ ∀ x, (s.seg.get x).sizesAgree = true

/-- The invariant is `State.sound` with EIP inside a 16-bit code segment. -/
theorem inv_iff (s : State) : s.inv = true ↔ s.sound ∧ s.eipFits = true := by
  simp only [State.inv, Bool.and_eq_true, State.sound]
  constructor
  · rintro ⟨⟨⟨⟨⟨⟨⟨⟨hmem, hfl⟩, heip⟩, hes⟩, hcs⟩, hss⟩, hds⟩, hfs⟩, hgs⟩
    exact ⟨⟨hmem, hfl, fun x => by cases x <;> assumption⟩, heip⟩
  · rintro ⟨⟨hmem, hfl, hseg⟩, heip⟩
    exact ⟨⟨⟨⟨⟨⟨⟨⟨hmem, hfl⟩, heip⟩, hseg .es⟩, hseg .cs⟩, hseg .ss⟩, hseg .ds⟩, hseg .fs⟩, hseg .gs⟩

/-- Whatever the resolver loads has equal sizes, so a segment load keeps them equal (R141, R145). -/
theorem loadSegment_sound {s t : State} {r : Sreg} {sel : Half} (hs : s.sound) (h : s.loadSegment r sel = .ok t) :
    t.sound := by
  obtain ⟨hmem, hfl, hseg⟩ := hs
  obtain ⟨g, hg, rfl⟩ := loadSegment_ok h
  refine ⟨hmem, hfl, fun x => ?_⟩
  by_cases hx : x = r
  · subst hx
    simpa using (resolve_ok hg).2
  · simpa [seg_get_set_ne s.seg g hx] using hseg x

theorem writeView_sound {s t : State} {x : RegView} {v : Nat} (hs : s.sound) (h : s.writeView x v = .ok t) :
    t.sound := by
  cases x with
  | seg r => exact loadSegment_sound hs h
  | eflags => cases h; exact ⟨hs.1, eflagsFixed_eflagsWrite _, hs.2.2⟩
  | absent | byte _ | half _ | full _ | eip | gdtr | ldtr | tr _ | idtr | cr _ | dr _ => cases h; exact hs

theorem store_sound {s t : State} {g : Option Sreg} {op : Operand} {v : OperandValue} (hs : s.sound)
    (h : s.store g op v = .ok t) : t.sound := by
  cases op with
  | reg id => exact writeView_sound hs h
  | mem _ _ _ _ _ => cases h; exact ⟨wf_writeFrom hs.1 _ _, hs.2⟩
  | imm _ _ | far _ _ _ | undefinedKind => cases h

/-- Flags computed from fixed bits that are fixed may be written. -/
theorem sound_eflags {s : State} (hs : s.sound) {e : Word} (he : eflagsFixed e = true) :
    State.sound { s with eflags := e } := ⟨hs.1, he, hs.2.2⟩

theorem push_sound {s : State} (hs : s.sound) (n : Nat) (v : List Byte) : (s.push n v).sound := by
  obtain ⟨hmem, hfl, hseg⟩ := hs
  exact ⟨push_wf hmem n v, by rwa [push_eflags], by rwa [push_seg]⟩

theorem pop_sound {s : State} (hs : s.sound) (n : Nat) : (s.pop n).2.sound := by
  unfold State.sound
  rwa [pop_mem, pop_eflags, pop_seg]

theorem aluStep_sound {op : AluOp} {r : Record} {s t : State} (hs : s.sound) (h : aluStep op r s = .ok t) :
    t.sound := by
  obtain ⟨a, b, u, -, -, hu, rfl⟩ := aluStep_ok h
  exact sound_eflags (store_sound hs hu) (eflagsFixed_aluOp _ _ _ hs.2.1)

theorem incDecStep_sound {f : (w : Nat) → BitVec w → Word → BitVec w × Word}
    (hf : ∀ (w : Nat) (a : BitVec w) (e : Word), eflagsFixed e = true → eflagsFixed (f w a e).2 = true)
    {r : Record} {s t : State} (hs : s.sound) (h : incDecStep f r s = .ok t) : t.sound := by
  obtain ⟨a, u, -, hu, rfl⟩ := incDecStep_ok h
  exact sound_eflags (store_sound hs hu) (hf _ _ _ hs.2.1)

theorem shiftStep_sound {f : (w : Nat) → BitVec w → Nat → Word → BitVec w × Word}
    (hf : ∀ (w : Nat) (a : BitVec w) (c : Nat) (e : Word), eflagsFixed e = true → eflagsFixed (f w a c e).2 = true)
    {r : Record} {s t : State} (hs : s.sound) (h : shiftStep f r s = .ok t) : t.sound := by
  obtain ⟨a, c, -, -, ⟨-, rfl⟩ | ⟨-, u, hu, rfl⟩⟩ := shiftStep_ok h
  · exact hs
  · exact sound_eflags (store_sound hs hu) (hf _ _ _ _ hs.2.1)

theorem movStep_sound {r : Record} {s t : State} (hs : s.sound) (h : movStep r s = .ok t) : t.sound := by
  obtain ⟨v, -, hv⟩ := movStep_ok h
  exact store_sound hs hv

theorem pushStep_sound {r : Record} {s t : State} (hs : s.sound) (h : pushStep r s = .ok t) : t.sound := by
  obtain ⟨v, -, rfl⟩ := pushStep_ok h
  exact push_sound hs _ _

/-- LGDT writes GDTR alone. -/
theorem lgdtStep_ok {r : Record} {s t : State} (h : lgdtStep r s = .ok t) : ∃ g, t = { s with gdtr := g } := by
  unfold lgdtStep at h
  cases hg : tableImage r s with
  | error e => rw [hg] at h; cases h
  | ok g => rw [hg] at h; cases h; exact ⟨g, rfl⟩

/-- LIDT writes IDTR alone. -/
theorem lidtStep_ok {r : Record} {s t : State} (h : lidtStep r s = .ok t) : ∃ g, t = { s with idtr := g } := by
  unfold lidtStep at h
  cases hg : tableImage r s with
  | error e => rw [hg] at h; cases h
  | ok g => rw [hg] at h; cases h; exact ⟨g, rfl⟩

/-- No opcode class makes a sound state unsound. -/
theorem recordStep_sound {r : Record} {s t : State} (hs : s.sound) (h : recordStep r s = .ok t) : t.sound := by
  unfold recordStep at h
  cases hop : r.op <;> rw [hop] at h
  case mov => exact movStep_sound hs h
  case add | or | adc | sbb | and | sub | xor => exact aluStep_sound hs h
  case inc => exact incDecStep_sound (fun _ a _ he => eflagsFixed_incOp a he) hs h
  case dec => exact incDecStep_sound (fun _ a _ he => eflagsFixed_decOp a he) hs h
  case shl => exact shiftStep_sound (fun _ a c _ he => eflagsFixed_shlOp a c he) hs h
  case shr => exact shiftStep_sound (fun _ a c _ he => eflagsFixed_shrOp a c he) hs h
  case push => exact pushStep_sound hs h
  case pop => exact store_sound (pop_sound hs _) h
  case lgdt => obtain ⟨g, rfl⟩ := lgdtStep_ok h; exact hs
  case lidt => obtain ⟨g, rfl⟩ := lidtStep_ok h; exact hs

/-- The advance of EIP wraps in a 16-bit code segment (R31), whatever EIP was. -/
theorem advance_eipFits (s : State) (len : Nat) : (s.advance len).eipFits = true := by
  unfold State.eipFits
  rw [advance_seg, advance_eip]
  cases s.seg.cs.operandSize with
  | s16 =>
    refine decide_eq_true (lt_of_le_of_lt ?_ (show 0xFFFF < 2 ^ 16 by decide))
    rw [nextEip, BitVec.toNat_and]
    exact Nat.and_le_right
  | s32 => rfl

theorem exec_inv {i : Instr} {s t : State} (hs : s.inv = true) (h : exec i s = .next t) : t.inv = true := by
  obtain ⟨u, hu, rfl⟩ := exec_next h
  have hsound : u.sound := recordStep_sound ((inv_iff s).1 hs).1 hu
  exact (inv_iff _).2 ⟨hsound, advance_eipFits u _⟩

/-- What the driver's run of one instruction can answer next. -/
theorem runInstruction_next {s t : State} (h : s.runInstruction = .next t) :
    (s.halt = true ∧ t = s) ∨ ∃ i, decode s.codeMode s.fetch = .ok i ∧ exec i s = .next t := by
  unfold State.runInstruction at h
  split at h
  · next hh => cases h; exact .inl ⟨hh, rfl⟩
  · split at h
    · next i hi => exact .inr ⟨i, hi, h⟩
    · cases h

/-- Settles O12: the boundary touches nothing the invariant speaks of, every operation keeps the parts of `State.sound`,
and the advance puts EIP inside a 16-bit code segment. -/
theorem stepKeepsInvariant : Obligations.StepKeepsInvariant := by
  intro s t hs h
  have hb : s.boundary.inv = true := hs
  obtain ⟨-, rfl⟩ | ⟨i, -, hi⟩ := runInstruction_next h
  · exact hb
  · exact exec_inv hb hi

/-- Settles O11: empty memory is canonical, EFLAGS is its fixed bit 1, and every size is 16. -/
theorem resetMeetsInvariant : Obligations.ResetMeetsInvariant :=
  (inv_iff _).2 ⟨⟨wf_reset, by decide, fun x => by cases x <;> rfl⟩, rfl⟩

end Sys2Proof.Machine
end

section
/-! What one instruction may write, said once, and what follows for EIP, the system registers and EFLAGS
(10_state.md R31, R32, R35; 43_alu.md R191). -/

namespace Sys2Proof.Machine

/-! The bits of EFLAGS an operation may write. -/

/-- The flags that ALU operations and shifts write (R191). -/
abbrev statusFlags : List Flag := [.cf, .pf, .af, .zf, .sf, .of]

/-- Every EFLAGS bit that is no status flag's is alike in the two words. -/
def sameOtherBits (e e' : Word) : Prop := ∀ j, otherBit statusFlags j → e'.getLsbD j = e.getLsbD j

/-- A bit outside some flags is outside any of them. -/
theorem otherBit_mono {fs gs : List Flag} {j : Nat} (h : otherBit fs j) (hsub : gs ⊆ fs) : otherBit gs j :=
  fun f hf => h f (hsub hf)

theorem sameOtherBits_aluOp {w : Nat} (op : AluOp) (a b : BitVec w) (e : Word) :
    sameOtherBits e (aluOp op a b e).2 := by
  intro j hj
  cases op with
  | add | adc | sub | sbb => exact arithFlags_other hj
  | or | and | xor => exact logicFlags_other (otherBit_mono hj (by simp))

theorem sameOtherBits_incDecFlags {w : Nat} (x : Arith w) (e : Word) : sameOtherBits e (incDecFlags x e) :=
  fun _ hj => incDecFlags_other (otherBit_mono hj (by simp))

theorem sameOtherBits_incOp {w : Nat} (a : BitVec w) (e : Word) : sameOtherBits e (incOp a e).2 :=
  sameOtherBits_incDecFlags _ e

theorem sameOtherBits_decOp {w : Nat} (a : BitVec w) (e : Word) : sameOtherBits e (decOp a e).2 :=
  sameOtherBits_incDecFlags _ e

theorem sameOtherBits_shiftFlags {w : Nat} (r : BitVec w) (c : Nat) (cf f : Bool) (e : Word) :
    sameOtherBits e (shiftFlags r c cf f e) := by
  intro j hj
  have hcf : j ≠ Flag.pos .cf := hj .cf (by simp)
  unfold shiftFlags
  rw [resultFlags_other (otherBit_mono hj (by simp))]
  split
  · rw [setFlag_other (hj .of (by simp)), setFlag_other hcf]
  · exact setFlag_other hcf

theorem sameOtherBits_shlOp {w : Nat} (a : BitVec w) (c : Nat) (e : Word) : sameOtherBits e (shlOp a c e).2 :=
  sameOtherBits_shiftFlags _ _ _ _ e

theorem sameOtherBits_shrOp {w : Nat} (a : BitVec w) (c : Nat) (e : Word) : sameOtherBits e (shrOp a c e).2 :=
  sameOtherBits_shiftFlags _ _ _ _ e

/-! What an instruction may write. -/

/-- What the opcode class and the destination of a record allow its step to make of a state, EIP's advance left out. -/
inductive Writes (r : Record) (s : State) : State → Prop
  | data (g : GprFile) (m : Memory) : Writes r s { s with gpr := g, mem := m }
  | flags (g : GprFile) (m : Memory) (e : Word)
      (hop : r.op ∈ [OpClass.add, .or, .adc, .sbb, .and, .sub, .xor, .inc, .dec, .shl, .shr])
      (he : sameOtherBits s.eflags e) : Writes r s { s with gpr := g, mem := m, eflags := e }
  | segment (g : GprFile) (x : Sreg) (d : SegReg) (hload : r.loads x) :
      Writes r s { s with gpr := g, seg := s.seg.set x d, holdIRQ := s.holdIRQ || x == .ss }
  | cr (c : Cr) (v : Word) (hop : r.op = .mov) (hd : r.operand 0 = .reg c.id) : Writes r s { s with cr := s.cr.set c v }
  | dr (n : Fin 8) (v : Word) (hop : r.op = .mov) (hd : r.operand 0 = .reg (48 + n.val)) :
      Writes r s { s with dr := s.dr.set n v }
  | tr (n : Fin 8) (v : Word) (hop : r.op = .mov) (hd : r.operand 0 = .reg (35 + n.val)) :
      Writes r s { s with tr := s.tr.set n v }
  | gdtr (g : TableReg) (hop : r.op = .lgdt) : Writes r s { s with gdtr := g }
  | idtr (g : TableReg) (hop : r.op = .lidt) : Writes r s { s with idtr := g }

/-- A store to a general register or to memory writes those alone (R164, R165). -/
theorem store_data {s t : State} {g : Option Sreg} {w : Width} {d : Operand} {v : OperandValue}
    (hd : dataOperand w d) (h : s.store g d v = .ok t) : ∃ gpr mem, t = { s with gpr := gpr, mem := mem } := by
  cases d with
  | reg id =>
    rw [store_reg] at h
    cases w with
    | w8 => obtain ⟨x, rfl⟩ := hd; rw [ofId_reg8] at h; cases h; exact ⟨_, _, rfl⟩
    | w16 => obtain ⟨x, rfl⟩ := hd; rw [ofId_gpr16] at h; cases h; exact ⟨_, _, rfl⟩
    | w32 => obtain ⟨x, rfl⟩ := hd; rw [ofId_gpr32] at h; cases h; exact ⟨_, _, rfl⟩
  | mem _ _ _ _ _ => cases h; exact ⟨_, _, rfl⟩
  | imm _ _ | far _ _ _ | undefinedKind => exact hd.elim

/-- The pointer a POP moves is a general register (R217). -/
theorem pop_data (s : State) (n : Nat) : ∃ gpr, (s.pop n).2 = { s with gpr := gpr } := by
  simp only [State.pop, State.setStackPointer]
  split <;> exact ⟨_, rfl⟩

/-- A PUSH writes a general register and memory (R216). -/
theorem push_data (s : State) (n : Nat) (v : List Byte) :
    ∃ gpr mem, s.push n v = { s with gpr := gpr, mem := mem } := by
  simp only [State.push, State.setStackPointer]
  split <;> exact ⟨_, _, rfl⟩

theorem store_sreg {s t : State} {g : Option Sreg} {x : Sreg} {v : OperandValue}
    (h : s.store g (.reg x.id) v = .ok t) :
    ∃ d, t = { s with seg := s.seg.set x d, holdIRQ := s.holdIRQ || x == .ss } := by
  rw [store_reg, ofId_sreg] at h
  obtain ⟨d, -, rfl⟩ := loadSegment_ok h
  exact ⟨d, rfl⟩

section
variable {r : Record} {s t : State}

theorem aluStep_writes {x : AluOp} (hop : r.op = x.opClass) (hd : dataOperand r.osz (r.operand 0))
    (h : aluStep x r s = .ok t) : Writes r s t := by
  obtain ⟨a, b, u, -, -, hu, rfl⟩ := aluStep_ok h
  obtain ⟨g, m, rfl⟩ := store_data hd hu
  exact .flags g m _ (by rw [hop]; cases x <;> decide) (sameOtherBits_aluOp _ _ _ _)

theorem incDecStep_writes {f : (w : Nat) → BitVec w → Word → BitVec w × Word} (hop : r.op = .inc ∨ r.op = .dec)
    (hd : dataOperand r.osz (r.operand 0)) (h : incDecStep f r s = .ok t)
    (hf : ∀ (w : Nat) (a : BitVec w) (e : Word), sameOtherBits e (f w a e).2) : Writes r s t := by
  obtain ⟨a, u, -, hu, rfl⟩ := incDecStep_ok h
  obtain ⟨g, m, rfl⟩ := store_data hd hu
  exact .flags g m _ (by obtain hop | hop := hop <;> rw [hop] <;> decide) (hf _ _ _)

theorem shiftStep_writes {f : (w : Nat) → BitVec w → Nat → Word → BitVec w × Word} (hop : r.op = .shl ∨ r.op = .shr)
    (hd : dataOperand r.osz (r.operand 0)) (h : shiftStep f r s = .ok t)
    (hf : ∀ (w : Nat) (a : BitVec w) (c : Nat) (e : Word), sameOtherBits e (f w a c e).2) : Writes r s t := by
  obtain ⟨a, c, -, -, ⟨-, rfl⟩ | ⟨-, u, hu, rfl⟩⟩ := shiftStep_ok h
  · exact .data t.gpr t.mem
  · obtain ⟨g, m, rfl⟩ := store_data hd hu
    exact .flags g m _ (by obtain hop | hop := hop <;> rw [hop] <;> decide) (hf _ _ _ _)

theorem moveControl_writes {g : Option Sreg} {id : Nat} {v : OperandValue} (hop : r.op = .mov)
    (hd : r.operand 0 = .reg id)
    (hid : (∃ c : Cr, id = c.id) ∨ (∃ n : Fin 8, id = 48 + n.val) ∨ ∃ n : Fin 8, id = 35 + n.val)
    (h : s.store g (.reg id) v = .ok t) : Writes r s t := by
  rw [store_reg] at h
  obtain ⟨c, rfl⟩ | ⟨n, rfl⟩ | ⟨n, rfl⟩ := hid
  · rw [ofId_cr] at h; cases h; exact .cr c _ hop hd
  · rw [ofId_dr] at h; cases h; exact .dr n _ hop hd
  · rw [ofId_tr] at h; cases h; exact .tr n _ hop hd

theorem operand_zero {d : Operand} {l : List Operand} (ho : r.opnd = d :: l) : r.operand 0 = d := by
  simp [Record.operand, ho]

/-- Every step of a decoded record writes what its opcode class and destination allow. -/
theorem recordStep_writes (hr : RecordShape r) (h : recordStep r s = .ok t) : Writes r s t := by
  unfold recordStep at h
  cases hr with
  | alu x hop ho hd _ =>
    rw [hop] at h
    rw [← operand_zero ho] at hd
    cases x <;> exact aluStep_writes hop hd h
  | incDec hop ho hd =>
    rw [← operand_zero ho] at hd
    obtain hop | hop := hop
    · rw [hop] at h; exact incDecStep_writes (.inl hop) hd h fun _ a e => sameOtherBits_incOp a e
    · rw [hop] at h; exact incDecStep_writes (.inr hop) hd h fun _ a e => sameOtherBits_decOp a e
  | shift hop ho hd _ =>
    rw [← operand_zero ho] at hd
    obtain hop | hop := hop
    · rw [hop] at h; exact shiftStep_writes (.inl hop) hd h fun _ a c e => sameOtherBits_shlOp a c e
    · rw [hop] at h; exact shiftStep_writes (.inr hop) hd h fun _ a c e => sameOtherBits_shrOp a c e
  | push hop _ _ _ | pushSeg _ hop _ _ =>
    rw [hop] at h
    obtain ⟨v, -, rfl⟩ := pushStep_ok h
    obtain ⟨g, m, e⟩ := push_data s r.osz.bytes v
    rw [e]; exact .data g m
  | pop hop ho hd _ =>
    rw [hop] at h
    rw [← operand_zero ho] at hd
    obtain ⟨g, m, rfl⟩ := store_data hd h
    obtain ⟨g', e⟩ := pop_data s r.osz.bytes
    rw [e]; exact .data g m
  | popSeg x hop ho _ _ =>
    rw [hop] at h
    have hd := operand_zero ho
    rw [popStep, hd] at h
    obtain ⟨d, rfl⟩ := store_sreg h
    obtain ⟨g, e⟩ := pop_data s r.osz.bytes
    rw [e]; exact .segment g x d ⟨.inr hop, hd⟩
  | moveFrom hop ho hd _ =>
    rw [hop] at h
    rw [← operand_zero ho] at hd
    obtain ⟨v, -, hv⟩ := movStep_ok h
    obtain ⟨g, m, rfl⟩ := store_data hd hv
    exact .data g m
  | moveSeg x hop _ ho _ =>
    rw [hop] at h
    have hd := operand_zero ho
    obtain ⟨v, -, hv⟩ := movStep_ok h
    rw [hd] at hv
    obtain ⟨d, rfl⟩ := store_sreg hv
    exact .segment s.gpr x d ⟨.inl hop, hd⟩
  | moveControl g hop _ ho hid =>
    rw [hop] at h
    have hd := operand_zero ho
    obtain ⟨v, -, hv⟩ := movStep_ok h
    rw [hd] at hv
    exact moveControl_writes hop hd hid hv
  | table hop _ _ =>
    obtain hop | hop := hop
    · rw [hop] at h; obtain ⟨g, rfl⟩ := lgdtStep_ok h; exact .gdtr g hop
    · rw [hop] at h; obtain ⟨g, rfl⟩ := lidtStep_ok h; exact .idtr g hop

/-! What each part of the state says of the instruction that changed it. -/

namespace Writes

theorem eip_same (h : Writes r s t) : t.eip = s.eip := by cases h <;> rfl

theorem kept (h : Writes r s t) : t.ldtr = s.ldtr ∧ t.halt = s.halt ∧ t.exception = s.exception := by
  cases h <;> exact ⟨rfl, rfl, rfl⟩

theorem of_cr {c : Cr} (h : Writes r s t) (hne : t.cr.get c ≠ s.cr.get c) : r.op = .mov ∧ r.operand 0 = .reg c.id := by
  cases h with
  | cr c' v hop hd =>
    by_cases hc : c = c'
    · subst hc; exact ⟨hop, hd⟩
    · exact absurd (cr_get_set_ne s.cr v hc) hne
  | _ => exact absurd rfl hne

theorem of_dr {n : Fin 8} (h : Writes r s t) (hne : t.dr.get n ≠ s.dr.get n) :
    r.op = .mov ∧ r.operand 0 = .reg (48 + n.val) := by
  cases h with
  | dr n' v hop hd =>
    by_cases hn : n = n'
    · subst hn; exact ⟨hop, hd⟩
    · exact absurd (bank_get_set_ne s.dr v hn) hne
  | _ => exact absurd rfl hne

theorem of_tr {n : Fin 8} (h : Writes r s t) (hne : t.tr.get n ≠ s.tr.get n) :
    r.op = .mov ∧ r.operand 0 = .reg (35 + n.val) := by
  cases h with
  | tr n' v hop hd =>
    by_cases hn : n = n'
    · subst hn; exact ⟨hop, hd⟩
    · exact absurd (bank_get_set_ne s.tr v hn) hne
  | _ => exact absurd rfl hne

theorem of_gdtr (h : Writes r s t) (hne : t.gdtr ≠ s.gdtr) : r.op = .lgdt := by
  cases h with
  | gdtr g hop => exact hop
  | _ => exact absurd rfl hne

theorem of_idtr (h : Writes r s t) (hne : t.idtr ≠ s.idtr) : r.op = .lidt := by
  cases h with
  | idtr g hop => exact hop
  | _ => exact absurd rfl hne

theorem of_seg {x : Sreg} (h : Writes r s t) (hne : t.seg.get x ≠ s.seg.get x) : r.loads x := by
  cases h with
  | segment g x' d hload =>
    by_cases hx : x = x'
    · subst hx; exact hload
    · exact absurd (seg_get_set_ne s.seg d hx) hne
  | _ => exact absurd rfl hne

theorem of_holdIRQ (h : Writes r s t) (hne : t.holdIRQ ≠ s.holdIRQ) : r.loads .ss := by
  cases h with
  | segment g x d hload =>
    cases x with
    | ss => exact hload
    | es | cs | ds | fs | gs => exact absurd (Bool.or_false _) hne
  | _ => exact absurd rfl hne

theorem of_eflags (h : Writes r s t) (hne : t.eflags ≠ s.eflags) :
    r.op ∈ [OpClass.add, .or, .adc, .sbb, .and, .sub, .xor, .inc, .dec, .shl, .shr] := by
  cases h with
  | flags g m e hop he => exact hop
  | _ => exact absurd rfl hne

theorem status_flags_only (h : Writes r s t) : sameOtherBits s.eflags t.eflags := by
  cases h with
  | flags g m e hop he => exact he
  | _ => exact fun _ _ => rfl

end Writes

end

/-- What an instruction that completes has written, before EIP's advance. -/
theorem exec_writes {i : Instr} {s t : State} (h : exec i s = .next t) :
    ∃ u, Writes (s.recordOf i) s u ∧ t = u.advance (s.recordOf i).len := by
  obtain ⟨u, hu, rfl⟩ := exec_next h
  exact ⟨u, recordStep_writes (record_shape _ i _) hu, rfl⟩

/-- Settles O48: each part of the state, by the operations that may write it. -/
theorem systemStateWriters : Obligations.SystemStateWriters := by
  intro s t i h r
  obtain ⟨u, hu, rfl⟩ := exec_writes h
  obtain ⟨hldtr, hhalt, hexception⟩ := hu.kept
  exact ⟨fun _ => hu.of_cr, fun _ => hu.of_dr, fun _ => hu.of_tr, hu.of_gdtr, hu.of_idtr, hldtr, hhalt, hexception,
    fun _ => hu.of_seg, hu.of_holdIRQ, hu.of_eflags⟩

/-- Settles O49: the flag computations are the only writers of EFLAGS, and each writes status flags alone. -/
theorem onlyStatusFlagsChange : Obligations.OnlyStatusFlagsChange := by
  intro s t i h
  obtain ⟨u, hu, rfl⟩ := exec_writes h
  exact hu.status_flags_only

/-! EIP. -/

/-- A record is as long as its prefixes and the instruction behind them (30_encoding.md R116). -/
theorem record_len (m : CodeMode) (i : Instr) (p : Prefixes) : (Instr.record m p i).len = p.count + i.length := by
  induction i generalizing p with
  | segEs i ih | segCs i ih | segSs i ih | segDs i ih | segFs i ih | segGs i ih | opsize i ih | adsize i ih | lock i ih
  | repne i ih | rep i ih => exact (ih _).trans (Nat.add_assoc _ _ _)
  | _ => rfl

/-- The advance of R31, in numbers. -/
theorem advance_eip_eq {s u : State} (heip : u.eip = s.eip) (hcs : u.seg.cs = s.seg.cs) (n : Nat) :
    (u.advance n).eip = s.eipAfter n := by
  rw [advance_eip, heip, hcs, State.eipAfter]
  cases s.seg.cs.operandSize with
  | s16 =>
    apply BitVec.eq_of_toNat_eq
    simp only [nextEip, BitVec.toNat_and, BitVec.toNat_add, BitVec.toNat_ofNat]
    rw [show 65535 % 2 ^ 32 = 2 ^ 16 - 1 by rfl, Nat.and_two_pow_sub_one_eq_mod]
    omega
  | s32 =>
    apply BitVec.eq_of_toNat_eq
    simp [nextEip]

/-- Settles O47: only a load of CS could change the size EIP wraps by, and nothing but the advance writes EIP. -/
theorem eipMovesPastInstruction : Obligations.EipMovesPastInstruction := by
  intro s t i hcs h
  obtain ⟨u, hu, rfl⟩ := exec_writes h
  have hcs' : u.seg.get .cs = s.seg.get .cs := by_contra fun hne => hcs (hu.of_seg hne)
  rw [State.recordOf, record_len, Nat.zero_add]
  exact advance_eip_eq hu.eip_same hcs' _

end Sys2Proof.Machine
end

section
/-! Two runs from states that differ in EFLAGS: nothing but CF is read there (10_state.md R35; 43_alu.md R191). -/

namespace Sys2Proof

/-! No operand of a decoded record names EFLAGS. -/

/-- The operand is EFLAGS (id 26), or addresses memory by it. -/
def Operand.namesEflags : Operand → Bool
  | .reg id => id == 26
  | .mem base index _ _ _ => base == some 26 || index == some 26
  | .imm _ _ | .far _ _ _ | .undefinedKind => false

@[simp] theorem reg8_not_namesEflags (r : Reg8) : r.operand.namesEflags = false := by cases r <;> rfl

@[simp] theorem gpr_not_namesEflags (r : Gpr) (z : Size) : (r.operand z).namesEflags = false := by
  cases r <;> cases z <;> rfl

@[simp] theorem sreg_not_namesEflags (r : Sreg) : r.operand.namesEflags = false := by cases r <;> rfl

@[simp] theorem cr_not_namesEflags (r : Cr) : r.operand.namesEflags = false := by cases r <;> rfl

@[simp] theorem dr_not_namesEflags (n : Fin 8) : (drOperand n).namesEflags = false := by revert n; decide

@[simp] theorem tr_not_namesEflags (n : Fin 8) : (trOperand n).namesEflags = false := by revert n; decide

@[simp] theorem imm8_not_namesEflags (v : Byte) : (imm8Operand v).namesEflags = false := rfl

@[simp] theorem iz_not_namesEflags (v : Iz) : v.operand.namesEflags = false := by cases v <;> rfl

@[simp] theorem moffs_not_namesEflags (a : Moffs) : a.operand.namesEflags = false := by cases a <;> rfl

@[simp] theorem mem_not_namesEflags (f : MemForm) : f.operand.namesEflags = false := by
  cases f with
  | direct16 _ | direct32 _ => rfl
  | based16 b _ => cases b <;> rfl
  | based32 b _ => cases b <;> rfl
  | sib32 _ ix b _ => cases ix <;> cases b <;> rfl
  | sibNoBase _ ix _ => cases ix <;> rfl

@[simp] theorem rm8_not_namesEflags (rm : Rm8) : rm.operand.namesEflags = false := by
  cases rm with
  | reg r => exact reg8_not_namesEflags r
  | mem f => exact mem_not_namesEflags f

@[simp] theorem rmv_not_namesEflags (rm : Rmv) (z : Size) : (rm.operand z).namesEflags = false := by
  cases rm with
  | reg r => exact gpr_not_namesEflags r z
  | mem f => exact mem_not_namesEflags f

theorem not_namesEflags_singleton {a : Operand} (ha : a.namesEflags = false) : ∀ o ∈ [a], o.namesEflags = false := by
  simpa using ha

theorem not_namesEflags_pair {a b : Operand} (ha : a.namesEflags = false) (hb : b.namesEflags = false) :
    ∀ o ∈ [a, b], o.namesEflags = false := by
  simpa using ⟨ha, hb⟩

/-- No operand of any row, behind any prefixes, names EFLAGS: the rows with one operand, and those with two. -/
theorem record_not_namesEflags (m : CodeMode) (i : Instr) (p : Prefixes) :
    ∀ o ∈ (Instr.record m p i).opnd, o.namesEflags = false := by
  induction i generalizing p with
  | segEs i ih | segCs i ih | segSs i ih | segDs i ih | segFs i ih | segGs i ih | opsize i ih | adsize i ih
  | lock i ih | repne i ih | rep i ih => exact ih _
  | incRv r | incRm8 rm | incRmv rm | decRv r | decRm8 rm | decRmv rm | pushRv r | pushRmv rm | pushImm v
  | pushImm8 v | pushEs | pushCs | pushSs | pushDs | pushFs | pushGs | popRv r | popRmv rm | popEs | popSs | popDs
  | popFs | popGs | lgdt f | lidt f => exact not_namesEflags_singleton (by simp)
  | _ => exact not_namesEflags_pair (by simp) (by simp)

/-- The record reads and writes no operand that names EFLAGS. -/
def Record.avoidsEflags (r : Record) : Prop := ∀ k, (r.operand k).namesEflags = false

theorem record_avoidsEflags (m : CodeMode) (i : Instr) (p : Prefixes) : (Instr.record m p i).avoidsEflags := by
  intro k
  rw [Record.operand, List.getD_eq_getElem?_getD]
  cases h : (Instr.record m p i).opnd[k]? with
  | none => rfl
  | some o => exact record_not_namesEflags m i p o (List.mem_of_getElem? h)

end Sys2Proof

namespace Sys2Proof.Machine

/-- The state with another EFLAGS. -/
def State.withEflags (s : State) (e : Word) : State := { s with eflags := e }

/-! Operands do not see EFLAGS. -/

section
variable {s : State} {e : Word}

theorem viewValue_withEflags {x : RegView} (hx : x ≠ .eflags) : (s.withEflags e).viewValue x = s.viewValue x := by
  cases x with
  | eflags => exact absurd rfl hx
  | absent | byte _ | half _ | full _ | eip | seg _ | gdtr | ldtr | tr _ | idtr | cr _ | dr _ => rfl

/-- Only id 26 is EFLAGS (R25). -/
theorem ofId_ne_eflags {id : Nat} (h : id ≠ 26) : RegView.ofId id ≠ .eflags := by
  unfold RegView.ofId
  split_ifs
  case neg => split <;> simp at h ⊢
  all_goals simp

theorem registerValue_withEflags {id : Nat} (h : id ≠ 26) : (s.withEflags e).registerValue id = s.registerValue id :=
  viewValue_withEflags (ofId_ne_eflags h)

theorem addressPart_withEflags {r : Option Nat} (h : r ≠ some 26) :
    (s.withEflags e).addressPart r = s.addressPart r := by
  cases r with
  | none => rfl
  | some id =>
    have hid : id ≠ 26 := fun hid => h (congrArg some hid)
    simp only [State.addressPart, registerValue_withEflags hid]

theorem operandAddress_withEflags {g : Option Sreg} {base index : Option Nat} {scale : Nat} {disp : Word} {z : Size}
    (h : (Operand.mem base index scale disp z).namesEflags = false) :
    (s.withEflags e).operandAddress g base index scale disp z = s.operandAddress g base index scale disp z := by
  simp only [Operand.namesEflags, Bool.or_eq_false_iff, beq_eq_false_iff_ne] at h
  simp only [State.operandAddress, State.offset, addressPart_withEflags h.1, addressPart_withEflags h.2]
  rfl

theorem evaluate_withEflags {g : Option Sreg} {o : Operand} {n : Nat} (h : o.namesEflags = false) :
    (s.withEflags e).evaluate g o n = s.evaluate g o n := by
  cases o with
  | reg id =>
    have hid : id ≠ 26 := by simpa [Operand.namesEflags] using h
    simp only [State.evaluate, registerValue_withEflags hid]
  | mem base index scale disp z =>
    simp only [State.evaluate, operandAddress_withEflags h]
    rfl
  | imm _ _ | far _ _ _ | undefinedKind => rfl

theorem loadSegment_withEflags (x : Sreg) (sel : Half) :
    (s.withEflags e).loadSegment x sel = (s.loadSegment x sel).map (·.withEflags e) := by
  have hr : (s.withEflags e).resolve sel = s.resolve sel := rfl
  unfold State.loadSegment
  rw [hr]
  cases s.resolve sel <;> rfl

/-- A store writes the same whatever EFLAGS is, and leaves EFLAGS alone. -/
theorem store_withEflags {g : Option Sreg} {o : Operand} {v : OperandValue} (h : o.namesEflags = false) :
    (s.withEflags e).store g o v = (s.store g o v).map (·.withEflags e) := by
  cases o with
  | reg id =>
    have hid : id ≠ 26 := by simpa [Operand.namesEflags] using h
    simp only [store_reg]
    cases hx : RegView.ofId id with
    | eflags => exact absurd hx (ofId_ne_eflags hid)
    | seg x => exact loadSegment_withEflags x _
    | absent | byte _ | half _ | full _ | eip | gdtr | ldtr | tr _ | idtr | cr _ | dr _ => rfl
  | mem base index scale disp z =>
    simp only [store_mem, operandAddress_withEflags h]
    rfl
  | imm _ _ | far _ _ _ | undefinedKind => rfl

/-- A store to an operand that does not name EFLAGS keeps EFLAGS. -/
theorem store_eflags {t : State} {g : Option Sreg} {o : Operand} {v : OperandValue} (h : o.namesEflags = false)
    (ht : s.store g o v = .ok t) : t.eflags = s.eflags := by
  have hs := store_withEflags (s := s) (e := s.eflags) (g := g) (v := v) h
  change s.store g o v = _ at hs
  rw [ht] at hs
  have hself : t = t.withEflags s.eflags := Except.ok.inj hs
  exact (congrArg State.eflags hself).trans rfl

end

/-! Flag computations on two words. -/

/-- Each bit of the words f and f' computed from e and e' is the same in both, or in both the bit there was before. -/
def flagsAlike (e e' f f' : Word) : Prop :=
  ∀ k, f'.getLsbD k = f.getLsbD k ∨ (f.getLsbD k = e.getLsbD k ∧ f'.getLsbD k = e'.getLsbD k)

section
variable {e e' f f' : Word}

theorem flagsAlike_refl (e e' : Word) : flagsAlike e e' e e' := fun _ => .inr ⟨rfl, rfl⟩

/-- Writing one value to a flag of both. -/
theorem flagsAlike_setFlag (h : flagsAlike e e' f f') (x : Flag) (b : Bool) :
    flagsAlike e e' (setFlag f x b) (setFlag f' x b) := by
  intro k
  by_cases hk : k = x.pos
  · simp [setFlag_getLsbD, hk]
  · simpa [setFlag_getLsbD, hk] using h k

theorem flagsAlike_resultFlags {w : Nat} (h : flagsAlike e e' f f') (r : BitVec w) :
    flagsAlike e e' (resultFlags r f) (resultFlags r f') :=
  flagsAlike_setFlag (flagsAlike_setFlag (flagsAlike_setFlag h _ _) _ _) _ _

theorem flagsAlike_arithFlags {w : Nat} (x : Arith w) (e e' : Word) :
    flagsAlike e e' (arithFlags x e) (arithFlags x e') :=
  have hcf := flagsAlike_setFlag (flagsAlike_refl e e') .cf x.cf
  flagsAlike_resultFlags (flagsAlike_setFlag (flagsAlike_setFlag hcf _ _) _ _) _

theorem flagsAlike_incDecFlags {w : Nat} (x : Arith w) (e e' : Word) :
    flagsAlike e e' (incDecFlags x e) (incDecFlags x e') :=
  flagsAlike_resultFlags (flagsAlike_setFlag (flagsAlike_setFlag (flagsAlike_refl e e') _ _) _ _) _

theorem flagsAlike_logicFlags {w : Nat} (r : BitVec w) (e e' : Word) :
    flagsAlike e e' (logicFlags r e) (logicFlags r e') :=
  flagsAlike_resultFlags (flagsAlike_setFlag (flagsAlike_setFlag (flagsAlike_refl e e') _ _) _ _) _

theorem flagsAlike_shiftFlags {w : Nat} (r : BitVec w) (c : Nat) (cf of : Bool) (e e' : Word) :
    flagsAlike e e' (shiftFlags r c cf of e) (shiftFlags r c cf of e') := by
  have hcf : flagsAlike e e' (setFlag e .cf cf) (setFlag e' .cf cf) := flagsAlike_setFlag (flagsAlike_refl e e') _ _
  unfold shiftFlags
  apply flagsAlike_resultFlags
  split
  · exact flagsAlike_setFlag hcf _ _
  · exact hcf

/-- The two answers of `OP` have one result and flags that are alike. -/
def opAlike {w : Nat} (e e' : Word) (x x' : BitVec w × Word) : Prop := x'.1 = x.1 ∧ flagsAlike e e' x.2 x'.2

/-- The two-operand ALU operations read CF alone, and that in ADC and SBB only (R194, R195). -/
theorem opAlike_aluOp {w : Nat} (hcf : getFlag e' .cf = getFlag e .cf) (op : AluOp) (a b : BitVec w) :
    opAlike e e' (aluOp op a b e) (aluOp op a b e') := by
  cases op with
  | add | sub => exact ⟨rfl, flagsAlike_arithFlags _ e e'⟩
  | adc | sbb =>
    simp only [aluOp, hcf]
    exact ⟨rfl, flagsAlike_arithFlags _ e e'⟩
  | or | and | xor => exact ⟨rfl, flagsAlike_logicFlags _ e e'⟩

end

/-! Steps on two states. -/

/-- Two steps from states with the EFLAGS e and e' that are otherwise one state answered alike: the same failure, or
next states that differ in EFLAGS only, and there as `flagsAlike` says. -/
def stepsAlike (e e' : Word) : Except Fault State → Except Fault State → Prop
  | .ok t, .ok t' => t' = t.withEflags t'.eflags ∧ flagsAlike e e' t.eflags t'.eflags
  | .error f, .error f' => f' = f
  | .ok _, .error _ | .error _, .ok _ => False

theorem stepsAlike_ok {e e' : Word} {t : State} {x : Except Fault State} (h : stepsAlike e e' (.ok t) x) :
    ∃ t', x = .ok t' ∧ t' = t.withEflags t'.eflags ∧ flagsAlike e e' t.eflags t'.eflags := by
  cases x with
  | ok t' => exact ⟨t', rfl, h⟩
  | error f => exact h.elim

theorem stepsAlike_error {e e' : Word} {f : Fault} {x : Except Fault State} (h : stepsAlike e e' (.error f) x) :
    x = .error f := by
  cases x with
  | ok t => exact h.elim
  | error f' => exact congrArg Except.error h

section
variable {r : Record} {s : State} {e : Word}

/-- A store alone is answered alike. -/
theorem store_alike (g : Option Sreg) {o : Operand} (v : OperandValue) (h : o.namesEflags = false) :
    stepsAlike s.eflags e (s.store g o v) ((s.withEflags e).store g o v) := by
  rw [store_withEflags h]
  cases ht : s.store g o v with
  | error f => rfl
  | ok t => exact ⟨rfl, store_eflags h ht ▸ flagsAlike_refl t.eflags e⟩

/-- A store and then the flags, as ALU operations and shifts end (42_operands_move.md R167). -/
theorem storeFlags_alike (g : Option Sreg) {o : Operand} (h : o.namesEflags = false) {w : Nat} (n : Nat)
    {x x' : BitVec w × Word} (hx : opAlike s.eflags e x x') :
    stepsAlike s.eflags e
      (do let t ← s.store g o (bytesOf n x.1.toNat); return { t with eflags := x.2 })
      (do let t ← (s.withEflags e).store g o (bytesOf n x'.1.toNat); return { t with eflags := x'.2 }) := by
  rw [hx.1, store_withEflags h]
  cases s.store g o (bytesOf n x.1.toNat) with
  | error f => rfl
  | ok t => exact ⟨rfl, hx.2⟩

theorem movStep_alike (hr : r.avoidsEflags) : stepsAlike s.eflags e (movStep r s) (movStep r (s.withEflags e)) := by
  unfold movStep
  rw [evaluate_withEflags (hr 1)]
  cases s.evaluate r.seg (r.operand 1) (movBytes r) with
  | error f => rfl
  | ok v => exact store_alike _ v (hr 0)

theorem aluStep_alike (hr : r.avoidsEflags) (hcf : getFlag e .cf = getFlag s.eflags .cf) (op : AluOp) :
    stepsAlike s.eflags e (aluStep op r s) (aluStep op r (s.withEflags e)) := by
  unfold aluStep
  rw [evaluate_withEflags (hr 0), evaluate_withEflags (hr 1)]
  cases s.evaluate r.seg (r.operand 0) r.osz.bytes with
  | error f => rfl
  | ok a =>
    cases s.evaluate r.seg (r.operand 1) r.osz.bytes with
    | error f => rfl
    | ok b => exact storeFlags_alike r.seg (hr 0) r.osz.bytes (opAlike_aluOp hcf op (valueOf _ a) (valueOf _ b))

theorem incDecStep_alike (hr : r.avoidsEflags) {f : (w : Nat) → BitVec w → Word → BitVec w × Word}
    (hf : ∀ (w : Nat) (a : BitVec w) (e e' : Word), opAlike e e' (f w a e) (f w a e')) :
    stepsAlike s.eflags e (incDecStep f r s) (incDecStep f r (s.withEflags e)) := by
  unfold incDecStep
  rw [evaluate_withEflags (hr 0)]
  cases s.evaluate r.seg (r.operand 0) r.osz.bytes with
  | error f => rfl
  | ok a => exact storeFlags_alike r.seg (hr 0) r.osz.bytes (hf _ (valueOf _ a) s.eflags e)

theorem shiftStep_alike (hr : r.avoidsEflags) {f : (w : Nat) → BitVec w → Nat → Word → BitVec w × Word}
    (hf : ∀ (w : Nat) (a : BitVec w) (c : Nat) (e e' : Word), opAlike e e' (f w a c e) (f w a c e')) :
    stepsAlike s.eflags e (shiftStep f r s) (shiftStep f r (s.withEflags e)) := by
  unfold shiftStep
  rw [evaluate_withEflags (hr 0), evaluate_withEflags (hr 1)]
  cases s.evaluate r.seg (r.operand 0) r.osz.bytes with
  | error f => rfl
  | ok a =>
    cases s.evaluate r.seg (r.operand 1) 1 with
    | error f => rfl
    | ok c =>
      simp only [bind, Except.bind]
      split
      · exact ⟨rfl, flagsAlike_refl s.eflags e⟩
      · exact storeFlags_alike r.seg (hr 0) r.osz.bytes (hf _ (valueOf _ a) _ s.eflags e)

theorem pop_withEflags (s : State) (e : Word) (n : Nat) :
    (s.withEflags e).pop n = ((s.pop n).1, (s.pop n).2.withEflags e) := by
  simp only [State.pop, State.setStackPointer, State.withEflags]
  cases s.seg.ss.addressSize <;> rfl

theorem push_withEflags (s : State) (e : Word) (n : Nat) (v : List Byte) :
    (s.withEflags e).push n v = (s.push n v).withEflags e := by
  simp only [State.push, State.setStackPointer, State.withEflags]
  cases s.seg.ss.addressSize <;> rfl

theorem pushStep_alike (hr : r.avoidsEflags) : stepsAlike s.eflags e (pushStep r s) (pushStep r (s.withEflags e)) := by
  unfold pushStep
  rw [evaluate_withEflags (hr 0)]
  cases s.evaluate r.seg (r.operand 0) r.osz.bytes with
  | error f => rfl
  | ok v =>
    simp only [push_withEflags]
    exact ⟨rfl, push_eflags s r.osz.bytes v ▸ flagsAlike_refl _ e⟩

theorem popStep_alike (hr : r.avoidsEflags) : stepsAlike s.eflags e (popStep r s) (popStep r (s.withEflags e)) := by
  unfold popStep
  rw [pop_withEflags]
  have h := store_alike (s := (s.pop r.osz.bytes).2) (e := e) r.seg (s.pop r.osz.bytes).1 (hr 0)
  rwa [pop_eflags] at h

theorem tableImage_withEflags (hr : r.avoidsEflags) : tableImage r (s.withEflags e) = tableImage r s := by
  unfold tableImage
  have h := hr 0
  split
  · next ho =>
    rw [ho] at h
    rw [evaluate_withEflags h]
  · rfl

theorem lgdtStep_alike (hr : r.avoidsEflags) : stepsAlike s.eflags e (lgdtStep r s) (lgdtStep r (s.withEflags e)) := by
  unfold lgdtStep
  rw [tableImage_withEflags hr]
  cases tableImage r s with
  | error f => rfl
  | ok g => exact ⟨rfl, flagsAlike_refl s.eflags e⟩

theorem lidtStep_alike (hr : r.avoidsEflags) : stepsAlike s.eflags e (lidtStep r s) (lidtStep r (s.withEflags e)) := by
  unfold lidtStep
  rw [tableImage_withEflags hr]
  cases tableImage r s with
  | error f => rfl
  | ok g => exact ⟨rfl, flagsAlike_refl s.eflags e⟩

/-- Every opcode class answers alike when CF is the same. -/
theorem recordStep_alike (hr : r.avoidsEflags) (hcf : getFlag e .cf = getFlag s.eflags .cf) :
    stepsAlike s.eflags e (recordStep r s) (recordStep r (s.withEflags e)) := by
  unfold recordStep
  cases r.op with
  | mov => exact movStep_alike hr
  | add | or | adc | sbb | and | sub | xor => exact aluStep_alike hr hcf _
  | inc | dec => exact incDecStep_alike hr fun _ _ e e' => ⟨rfl, flagsAlike_incDecFlags _ e e'⟩
  | shl | shr => exact shiftStep_alike hr fun _ _ _ e e' => ⟨rfl, flagsAlike_shiftFlags _ _ _ _ e e'⟩
  | push => exact pushStep_alike hr
  | pop => exact popStep_alike hr
  | lgdt => exact lgdtStep_alike hr
  | lidt => exact lidtStep_alike hr

end

/-- An instruction is the step of its record and then the advance of EIP (60_exceptions.md R236). -/
theorem exec_eq_complete (i : Instr) (s : State) :
    exec i s = complete (s.recordOf i).len (recordStep (s.recordOf i) s) := by
  rw [exec_eq_runRecord, runRecord_eq_complete]
  rfl

/-- Settles O50: no operand names EFLAGS, and the flag computations read CF alone. -/
theorem onlyCarryIsRead : Obligations.OnlyCarryIsRead := by
  intro s i e hcf
  have halike : stepsAlike s.eflags e (recordStep (s.recordOf i) s) (recordStep (s.recordOf i) (s.withEflags e)) :=
    recordStep_alike (record_avoidsEflags s.codeMode i {}) hcf
  have hexec : exec i (s.withEflags e) = complete (s.recordOf i).len (recordStep (s.recordOf i) (s.withEflags e)) :=
    exec_eq_complete i (s.withEflags e)
  constructor
  · intro t ht
    rw [exec_eq_complete] at ht
    obtain ⟨u, hu, rfl⟩ := complete_next.1 ht
    rw [hu] at halike
    obtain ⟨u', hu', hsame, hflags⟩ := stepsAlike_ok halike
    rw [hu'] at hexec
    exact ⟨u'.advance _, hexec, congrArg (State.advance · _) hsame, fun k _ => hflags k⟩
  · intro f hf
    rw [exec_eq_complete] at hf
    rw [complete_fault.1 hf] at halike
    rw [stepsAlike_error halike] at hexec
    exact hexec

end Sys2Proof.Machine
end

section
/-! Registers by id and through their views, the flag accessors, reset, and the dump of the reset state
(10_state.md R22 to R34, R49, R54 to R63). -/

namespace Sys2Proof.Machine

/-! Ids and views (R23, R25). -/

/-- The ids 1 to 24 are those of the views of the general registers. -/
theorem gpr_id_cases {id : Nat} (h1 : 1 ≤ id) (h24 : id ≤ 24) :
    (∃ r : Reg8, id = r.id) ∨ (∃ r : Gpr, id = r.id .s16) ∨ ∃ r : Gpr, id = r.id .s32 := by
  by_cases h8 : id ≤ 8
  · refine .inl ⟨Reg8.ofBits (BitVec.ofNat 3 (id - 1)), ?_⟩
    rw [Reg8.id, reg8_bits_ofBits, BitVec.toNat_ofNat]
    omega
  by_cases h16 : id ≤ 16
  · refine .inr (.inl ⟨Gpr.ofBits (BitVec.ofNat 3 (id - 9)), ?_⟩)
    rw [Gpr.id, gpr_bits_ofBits, BitVec.toNat_ofNat]
    omega
  · refine .inr (.inr ⟨Gpr.ofBits (BitVec.ofNat 3 (id - 17)), ?_⟩)
    rw [Gpr.id, gpr_bits_ofBits, BitVec.toNat_ofNat]
    omega

/-- The ids from 56 on, and id 0, name nothing. -/
theorem ofId_absent {id : Nat} (h : id = 0 ∨ 56 ≤ id) : RegView.ofId id = .absent := by
  obtain rfl | h := h
  · rfl
  · unfold RegView.ofId
    rw [if_neg (by omega), if_neg (by omega), if_neg (by omega), if_neg (by omega)]
    split
    case h_32 => rfl
    all_goals omega

/-- A read by id is a read through the view the id names (R28). -/
theorem registerValue_of_view {s : State} {id : Nat} {x : RegView} (h : RegView.ofId id = x) :
    s.registerValue id = s.viewValue x := congrArg s.viewValue h

/-- A write by id is a write through the view the id names (R29). -/
theorem writeRegister_of_view {s : State} {id v : Nat} {x : RegView} (h : RegView.ofId id = x) :
    s.writeRegister id v = s.writeView x v := congrArg (s.writeView · v) h

/-- The 8-bit view as a number: bits 15:8 or 7:0 of its cell. -/
theorem gpr_get8_toNat (g : GprFile) (r : Reg8) : (g.get8 r).toNat =
    if r.high then (g.get r.cell).toNat / 2 ^ 8 % 2 ^ 8 else (g.get r.cell).toNat % 2 ^ 8 := by
  unfold GprFile.get8
  split <;> simp [Nat.shiftRight_eq_div_pow]

theorem gpr_get16_toNat (g : GprFile) (r : Gpr) : (g.get16 r).toNat = (g.get r).toNat % 2 ^ 16 := by
  simp [GprFile.get16]

/-- Settles O14: each id names its view. -/
theorem readByRegisterId : Obligations.ReadByRegisterId := by
  intro s
  exact ⟨fun r => (registerValue_of_view (ofId_reg8 r)).trans (gpr_get8_toNat s.gpr r),
    fun r => (registerValue_of_view (ofId_gpr16 r)).trans (gpr_get16_toNat s.gpr r),
    fun r => registerValue_of_view (ofId_gpr32 r), rfl, rfl, fun x => registerValue_of_view (ofId_sreg x),
    fun n => registerValue_of_view (ofId_tr n), fun c => registerValue_of_view (ofId_cr c),
    fun n => registerValue_of_view (ofId_dr n), rfl, rfl, rfl, fun _ h => registerValue_of_view (ofId_absent h)⟩

/-! Writes through the views of the general registers (R24). -/

/-- A write through an 8-bit view keeps every bit outside the view. -/
theorem gprKept_set8 (s : State) (r : Reg8) (v : Byte) : gprKept s { s with gpr := s.gpr.set8 r v } r.id := by
  intro g k hk
  by_cases hg : g = r.cell
  · subst hg
    have hout : ¬ (if r.high then 8 ≤ k ∧ k < 16 else k < 8) := fun h => hk (.inl ⟨r, rfl, rfl, h⟩)
    change ((s.gpr.set8 r v).get r.cell).getLsbD k = _
    rw [gpr_set8_bit]
    split_ifs at hout ⊢ <;> rfl
  · exact congrArg (·.getLsbD k) (gpr_get8_ne s.gpr v hg)

theorem gprKept_set16 (s : State) (r : Gpr) (v : Half) : gprKept s { s with gpr := s.gpr.set16 r v } (r.id .s16) := by
  intro g k hk
  by_cases hg : g = r
  · subst hg
    have hout : ¬ k < 16 := fun h => hk (.inr (.inl ⟨rfl, h⟩))
    exact (gpr_set16_bit s.gpr g v k).trans (if_neg hout)
  · exact congrArg (·.getLsbD k) (gpr_get16_ne s.gpr v hg)

theorem gprKept_set (s : State) (r : Gpr) (v : Word) : gprKept s { s with gpr := s.gpr.set r v } (r.id .s32) := by
  intro g k hk
  by_cases hg : g = r
  · subst hg
    have hout : 32 ≤ k := Nat.le_of_not_lt fun h => hk (.inr (.inr ⟨rfl, h⟩))
    rw [BitVec.getLsbD_of_ge _ k hout, BitVec.getLsbD_of_ge _ k hout]
  · exact congrArg (·.getLsbD k) (gpr_get_set_ne s.gpr v hg)

/-- Settles O13, by the three widths of view. -/
theorem writeThroughView : Obligations.WriteThroughView := by
  intro s id v h1 h24
  obtain ⟨r, rfl⟩ | ⟨r, rfl⟩ | ⟨r, rfl⟩ := gpr_id_cases h1 h24
  · refine ⟨_, writeRegister_of_view (ofId_reg8 r), ?_, gprKept_set8 s r _, rfl⟩
    rw [registerValue_of_view (ofId_reg8 r), registerSize, ofId_reg8]
    simp [State.viewValue, RegView.size]
  · refine ⟨_, writeRegister_of_view (ofId_gpr16 r), ?_, gprKept_set16 s r _, rfl⟩
    rw [registerValue_of_view (ofId_gpr16 r), registerSize, ofId_gpr16]
    simp [State.viewValue, RegView.size]
  · refine ⟨_, writeRegister_of_view (ofId_gpr32 r), ?_, gprKept_set s r _, rfl⟩
    rw [registerValue_of_view (ofId_gpr32 r), registerSize, ofId_gpr32]
    simp [State.viewValue, RegView.size]

/-! Writes by the other ids (R29). -/

/-- A bit of EFLAGS written whole (R34). -/
theorem eflagsWrite_getLsbD (v : Word) {k : Nat} (hk : k < 32) : (eflagsWrite v).getLsbD k =
    if k = 1 then true else if k = 3 ∨ k = 5 ∨ k = 15 ∨ 19 ≤ k then false else v.getLsbD k := by
  rw [eflagsWrite, BitVec.getLsbD_or, BitVec.getLsbD_and]
  interval_cases k <;> simp

/-- Settles O15: each id names its view, and the images give their registers back (R49). -/
theorem writeByRegisterId : Obligations.WriteByRegisterId := by
  intro s v
  refine ⟨rfl, ⟨_, rfl, fun k hk => ?_⟩, fun x => writeRegister_of_view (ofId_sreg x),
    fun n => writeRegister_of_view (ofId_tr n), fun c => writeRegister_of_view (ofId_cr c),
    fun n => writeRegister_of_view (ofId_dr n), fun g => ?_, fun g => ?_, fun g => ?_,
    fun _ h => writeRegister_of_view (ofId_absent h)⟩
  · rw [eflagsWrite_getLsbD _ hk, BitVec.getLsbD_ofNat, decide_eq_true hk, Bool.true_and]
  · exact congrArg (fun g => Except.ok { s with gdtr := g }) (ofImage_image g)
  · exact congrArg (fun g => Except.ok { s with idtr := g }) (ofImage_image g)
  · exact congrArg (fun g => Except.ok { s with ldtr := g }) (ldt_ofImage_image g)

/-! The flag accessors (R32, R33). -/

/-- IOPL is bits 13:12 alone. -/
theorem setIopl_getLsbD (e : Word) (v : BitVec 2) (k : Nat) : (setIopl e v).getLsbD k =
    if k = 12 then v.getLsbD 0 else if k = 13 then v.getLsbD 1 else e.getLsbD k := by
  rw [setIopl, putBit_getLsbD _ (by decide), putBit_getLsbD _ (by decide)]
  by_cases h12 : k = 12
  · simp [h12]
  · simp [h12]

theorem getIopl_setIopl (e : Word) (v : BitVec 2) : getIopl (setIopl e v) = v := by
  apply BitVec.eq_of_getLsbD_eq
  intro k hk
  rw [getIopl, BitVec.getLsbD_extractLsb', setIopl_getLsbD]
  interval_cases k <;> simp

/-- Settles O17: a flag is the bit at its position, and each accessor is `putBit` there. -/
theorem flagAccessors : Obligations.FlagAccessors := by
  intro e
  refine ⟨rfl, rfl, rfl, rfl, rfl, rfl, rfl, rfl, rfl, ?_, ?_, rfl, rfl, rfl, rfl,
    fun f b k _ => setFlag_getLsbD e f b k, fun v k _ => setIopl_getLsbD e v k, fun f b => getFlag_setFlag_same e f b, getIopl_setIopl e⟩
  · simp [getIopl]
  · simp [getIopl]

/-! Names and sizes (R25 to R27). -/

theorem registerSize_eq (id : Nat) : registerSize id =
    if id = 0 ∨ 56 ≤ id then 0 else if id ≤ 8 then 1 else if id ≤ 16 then 2 else if 27 ≤ id ∧ id ≤ 32 then 2
    else if id = 33 ∨ id = 43 then 6 else if id = 34 then 10 else 4 := by
  by_cases h : id < 56
  · revert id; decide
  · have h56 : id = 0 ∨ 56 ≤ id := .inr (Nat.le_of_not_lt h)
    rw [if_pos h56, registerSize, ofId_absent h56]
    rfl

/-- Settles O16: the table holds 56 names, each at its id, and no name twice. -/
theorem registerNamesAndSizes : Obligations.RegisterNamesAndSizes := by
  refine ⟨rfl, fun r => ?_, fun r => ?_, rfl, rfl, fun r => ?_, rfl, rfl, rfl, by decide, by decide, by decide,
    by decide, fun id h => List.getElem?_eq_none h, registerSize_eq⟩
  · cases r <;> rfl
  · cases r <;> exact ⟨rfl, by decide⟩
  · cases r <;> rfl

/-! Reset (R57 to R63). -/

/-- Settles O10: the reset state field by field; memory is that of the state before (R260). -/
theorem resetValues : Obligations.ResetValues := by
  intro a d s t
  refine ⟨rfl, rfl, rfl, rfl, fun x hx => ?_, rfl, fun n => ?_, fun n => ?_, rfl, rfl, rfl, rfl, rfl, rfl, fun _ => rfl,
    ?_, ?_⟩
  · cases x with
    | cs => exact absurd rfl hx
    | es | ss | ds | fs | gs => rfl
  · fin_cases n <;> rfl
  · fin_cases n <;> rfl
  · have hfirst : (0xFFFF0000#32 : Word) + 0x0000FFF0#32 = 0xFFFFFFF0#32 := by decide
    exact hfirst
  · rfl

/-- Settles O60: the dump is a closed text, which the model evaluates. -/
theorem dumpOfReset : Obligations.DumpOfReset := by
  unfold Obligations.DumpOfReset
  rfl

/-- Settles O9: the boundary lowers `holdIRQ` and the driver runs nothing, or finds no instruction (R50, R121). -/
theorem haltedAndUndecodableSteps : Obligations.HaltedAndUndecodableSteps := by
  constructor
  · intro s hhalt
    exact if_pos hhalt
  · intro s e hrun herr
    have hrun' : ¬ s.boundary.halt = true := by simp [hrun]
    rw [step, State.runInstruction, if_neg hrun', codeMode_boundary, boundary_fetch, herr]

end Sys2Proof.Machine
end

section
/-! The decoder reads an encoding back whatever follows it, and so a step runs the instruction whose encoding lies at
CS:EIP (30_encoding.md R102 to R121; 10_state.md R30; 20_memory.md R73). -/

namespace Sys2Proof

/-! Each operand shape of the rows is read back as what it encodes. -/

section
variable {z o : Size} {op : Byte} {reg : BitVec 3}

theorem rowRm8R8_encode {f : Rm8 → Reg8 → Instr} {rm : Rm8} (h : rm.ok z = true) (r : Reg8) (rest : List Byte) :
    rowRm8R8 z f (rm.encode r.bits ++ rest) = .ok (f rm r, rest) := by
  obtain ⟨x, tail, hx, hreg, hrm⟩ := readRm8_encode h r.bits rest
  simp [rowRm8R8, hx, hreg, hrm]

theorem rowRmvRv_encode {f : Rmv → Gpr → Instr} {rm : Rmv} (h : rm.ok z = true) (r : Gpr) (rest : List Byte) :
    rowRmvRv z f (rm.encode r.bits ++ rest) = .ok (f rm r, rest) := by
  obtain ⟨x, tail, hx, hreg, hrm⟩ := readRmv_encode h r.bits rest
  simp [rowRmvRv, hx, hreg, hrm]

theorem rowR8Rm8_encode {f : Reg8 → Rm8 → Instr} {rm : Rm8} (h : rm.ok z = true) (r : Reg8) (rest : List Byte) :
    rowR8Rm8 z f (rm.encode r.bits ++ rest) = .ok (f r rm, rest) := rowRm8R8_encode h r rest

theorem rowRvRmv_encode {f : Gpr → Rmv → Instr} {rm : Rmv} (h : rm.ok z = true) (r : Gpr) (rest : List Byte) :
    rowRvRmv z f (rm.encode r.bits ++ rest) = .ok (f r rm, rest) := rowRmvRv_encode h r rest

theorem rowIz_encode {f : Iz → Instr} {v : Iz} (h : v.ok o = true) (rest : List Byte) :
    rowIz o f (v.encode ++ rest) = .ok (f v, rest) := by
  simp [rowIz, readIz_encode h]

theorem rowMoffs_encode {f : Moffs → Instr} {a : Moffs} (h : a.ok z = true) (rest : List Byte) :
    rowMoffs z f (a.encode ++ rest) = .ok (f a, rest) := by
  simp [rowMoffs, readMoffs_encode h]

theorem groupRm8_encode {f : BitVec 3 → Option (Rm8 → Instr)} {g : Rm8 → Instr} {rm : Rm8}
    (h : rm.ok z = true) (rest : List Byte) (hf : f reg = some g) :
    groupRm8 z op f (rm.encode reg ++ rest) = .ok (g rm, rest) := by
  obtain ⟨x, tail, hx, rfl, hrm⟩ := readRm8_encode h reg rest
  simp [groupRm8, hx, hf, hrm]

theorem groupRmv_encode {f : BitVec 3 → Option (Rmv → Instr)} {g : Rmv → Instr} {rm : Rmv}
    (h : rm.ok z = true) (rest : List Byte) (hf : f reg = some g) :
    groupRmv z op f (rm.encode reg ++ rest) = .ok (g rm, rest) := by
  obtain ⟨x, tail, hx, rfl, hrm⟩ := readRmv_encode h reg rest
  simp [groupRmv, hx, hf, hrm]

theorem groupRm8Imm8_encode {f : BitVec 3 → Option (Rm8 → Byte → Instr)} {g : Rm8 → Byte → Instr} {rm : Rm8}
    (h : rm.ok z = true) (v : Byte) (rest : List Byte) (hf : f reg = some g) :
    groupRm8Imm8 z op f (rm.encode reg ++ [v] ++ rest) = .ok (g rm v, rest) := by
  obtain ⟨x, tail, hx, rfl, hrm⟩ := readRm8_encode h reg (v :: rest)
  simp [groupRm8Imm8, hx, hf, hrm]

theorem groupRmvImm8_encode {f : BitVec 3 → Option (Rmv → Byte → Instr)} {g : Rmv → Byte → Instr} {rm : Rmv}
    (h : rm.ok z = true) (v : Byte) (rest : List Byte) (hf : f reg = some g) :
    groupRmvImm8 z op f (rm.encode reg ++ [v] ++ rest) = .ok (g rm v, rest) := by
  obtain ⟨x, tail, hx, rfl, hrm⟩ := readRmv_encode h reg (v :: rest)
  simp [groupRmvImm8, hx, hf, hrm]

theorem groupRmvIz_encode {f : BitVec 3 → Option (Rmv → Iz → Instr)} {g : Rmv → Iz → Instr} {rm : Rmv} {v : Iz}
    (h : (rm.ok z && v.ok o) = true) (rest : List Byte) (hf : f reg = some g) :
    groupRmvIz z o op f (rm.encode reg ++ v.encode ++ rest) = .ok (g rm v, rest) := by
  obtain ⟨hok, hv⟩ := Bool.and_eq_true_iff.1 h
  obtain ⟨x, tail, hx, rfl, hrm⟩ := readRmv_encode hok reg (v.encode ++ rest)
  simp [groupRmvIz, hx, hf, hrm, readIz_encode hv]

theorem rowRm16Sreg_encode {rm : Rmv} (h : rm.ok z = true) (x : Sreg) (rest : List Byte) :
    rowRm16Sreg z (rm.encode x.bits ++ rest) = .ok (.movRm16Sreg rm x, rest) := by
  obtain ⟨y, tail, hy, hreg, hrm⟩ := readRmv_encode h x.bits rest
  simp [rowRm16Sreg, hy, hreg, hrm]

theorem rowSregRm16_encode {rm : Rmv} {x : Sreg} (h : (rm.ok z && x != .cs) = true) (rest : List Byte) :
    rowSregRm16 z (rm.encode x.bits ++ rest) = .ok (.movSregRm16 x rm, rest) := by
  obtain ⟨hok, hx⟩ := Bool.and_eq_true_iff.1 h
  obtain ⟨y, tail, hy, hreg, hrm⟩ := readRmv_encode hok x.bits rest
  have hcs : x ≠ .cs := by simpa using hx
  simp [rowSregRm16, hy, hreg, hrm, hcs]

theorem rowCr_encode {f : BitVec 2 → Cr → Gpr → Instr} {c : Cr} (h : (c != .cr1) = true) (x : BitVec 2) (r : Gpr)
    (rest : List Byte) : rowCr f (modrm x c.bits r.bits :: rest) = .ok (f x c r, rest) := by
  cases c with
  | cr0 | cr2 | cr3 => simp [rowCr, Cr.bits]
  | cr1 => cases h

theorem rowDr_encode {f : BitVec 2 → Fin 8 → Gpr → Instr} {n : Fin 8} (h : drAdmitted n = true) (x : BitVec 2) (r : Gpr)
    (rest : List Byte) : rowDr f (modrm x (regBits n) r.bits :: rest) = .ok (f x n r, rest) := by
  simp [rowDr, regBits, h]

theorem rowTr_encode {f : BitVec 2 → Fin 8 → Gpr → Instr} {n : Fin 8} (h : trAdmitted n = true) (x : BitVec 2) (r : Gpr)
    (rest : List Byte) : rowTr f (modrm x (regBits n) r.bits :: rest) = .ok (f x n r, rest) := by
  simp [rowTr, regBits, h]

theorem group0F01_encode_lgdt {f : MemForm} (h : f.ok z = true) (rest : List Byte) :
    group0F01 z (f.encode 2#3 ++ rest) = .ok (.lgdt f, rest) := by
  obtain ⟨md, rm, tail, he, hmd, hr⟩ := readMem_encode h 2#3 rest
  have hmd' : md ≠ 3#2 := hmd
  simp [group0F01, he, hmd', hr]

theorem group0F01_encode_lidt {f : MemForm} (h : f.ok z = true) (rest : List Byte) :
    group0F01 z (f.encode 3#3 ++ rest) = .ok (.lidt f, rest) := by
  obtain ⟨md, rm, tail, he, hmd, hr⟩ := readMem_encode h 3#3 rest
  have hmd' : md ≠ 3#2 := hmd
  simp [group0F01, he, hmd', hr]

end

/-- A byte of R103 is read, and its row stands before what follows. -/
theorem decodeFrom_prefix {m : CodeMode} {p : Prefixes} {x : Pfx} {b : Byte} {bs rest : List Byte} {i : Instr}
    (hb : Pfx.ofByte? b = some x) (h : decodeFrom m (x.apply p) bs = .ok (i, rest)) :
    decodeFrom m p (b :: bs) = .ok (x.wrap i, rest) := by
  simp [decodeFrom, hb, h]

/-- Every instruction whose forms have an encoding is read back from it, behind any prefixes, and no byte more. -/
theorem decodeFrom_encode (m : CodeMode) (i : Instr) (p : Prefixes) (rest : List Byte)
    (h : Instr.formsOk m p i = true) : decodeFrom m p (i.encode ++ rest) = .ok (i, rest) := by
  induction i generalizing p with
  | segEs i ih => exact decodeFrom_prefix (x := .es) rfl (ih _ h)
  | segCs i ih => exact decodeFrom_prefix (x := .cs) rfl (ih _ h)
  | segSs i ih => exact decodeFrom_prefix (x := .ss) rfl (ih _ h)
  | segDs i ih => exact decodeFrom_prefix (x := .ds) rfl (ih _ h)
  | segFs i ih => exact decodeFrom_prefix (x := .fs) rfl (ih _ h)
  | segGs i ih => exact decodeFrom_prefix (x := .gs) rfl (ih _ h)
  | opsize i ih => exact decodeFrom_prefix (x := .opsize) rfl (ih _ h)
  | adsize i ih => exact decodeFrom_prefix (x := .adsize) rfl (ih _ h)
  | lock i ih => exact decodeFrom_prefix (x := .lock) rfl (ih _ h)
  | repne i ih => exact decodeFrom_prefix (x := .repne) rfl (ih _ h)
  | rep i ih => exact decodeFrom_prefix (x := .rep) rfl (ih _ h)
  | movRm8R8 rm r | addRm8R8 rm r | orRm8R8 rm r | adcRm8R8 rm r | sbbRm8R8 rm r | andRm8R8 rm r | subRm8R8 rm r
  | xorRm8R8 rm r =>
    exact rowRm8R8_encode h r rest
  | movRmvRv rm r | addRmvRv rm r | orRmvRv rm r | adcRmvRv rm r | sbbRmvRv rm r | andRmvRv rm r | subRmvRv rm r
  | xorRmvRv rm r =>
    exact rowRmvRv_encode h r rest
  | movR8Rm8 r rm | addR8Rm8 r rm | orR8Rm8 r rm | adcR8Rm8 r rm | sbbR8Rm8 r rm | andR8Rm8 r rm | subR8Rm8 r rm
  | xorR8Rm8 r rm =>
    exact rowR8Rm8_encode h r rest
  | movRvRmv r rm | addRvRmv r rm | orRvRmv r rm | adcRvRmv r rm | sbbRvRmv r rm | andRvRmv r rm | subRvRmv r rm
  | xorRvRmv r rm =>
    exact rowRvRmv_encode h r rest
  | addAlImm8 v | orAlImm8 v | adcAlImm8 v | sbbAlImm8 v | andAlImm8 v | subAlImm8 v | xorAlImm8 v | pushImm8 v =>
    rfl
  | addEaxImm v | orEaxImm v | adcEaxImm v | sbbEaxImm v | andEaxImm v | subEaxImm v | xorEaxImm v | pushImm v =>
    exact rowIz_encode h rest
  | addRm8Imm8 rm v | orRm8Imm8 rm v | adcRm8Imm8 rm v | sbbRm8Imm8 rm v | andRm8Imm8 rm v | subRm8Imm8 rm v
  | xorRm8Imm8 rm v =>
    exact groupRm8Imm8_encode (f := fun d => (AluOp.ofDigit d).map AluOp.rm8Imm8) h v rest rfl
  | addRm8Imm8Alias rm v | orRm8Imm8Alias rm v | adcRm8Imm8Alias rm v | sbbRm8Imm8Alias rm v
  | andRm8Imm8Alias rm v | subRm8Imm8Alias rm v | xorRm8Imm8Alias rm v =>
    exact groupRm8Imm8_encode (f := fun d => (AluOp.ofDigit d).map AluOp.rm8Imm8Alias) h v rest rfl
  | addRmvImm8 rm v | orRmvImm8 rm v | adcRmvImm8 rm v | sbbRmvImm8 rm v | andRmvImm8 rm v | subRmvImm8 rm v
  | xorRmvImm8 rm v =>
    exact groupRmvImm8_encode (f := fun d => (AluOp.ofDigit d).map AluOp.rmvImm8) h v rest rfl
  | addRmvImm rm v | orRmvImm rm v | adcRmvImm rm v | sbbRmvImm rm v | andRmvImm rm v | subRmvImm rm v
  | xorRmvImm rm v =>
    exact groupRmvIz_encode (f := fun d => (AluOp.ofDigit d).map AluOp.rmvImm) h rest rfl
  | movRm8Imm8 rm v =>
    exact groupRm8Imm8_encode (f := onlyDigit 0 .movRm8Imm8) h v rest rfl
  | movRmvImm rm v =>
    exact groupRmvIz_encode (f := onlyDigit 0 .movRmvImm) h rest rfl
  | shlRm8Imm8 rm v | shrRm8Imm8 rm v =>
    exact groupRm8Imm8_encode (f := shiftDigit .shlRm8Imm8 .shrRm8Imm8) h v rest rfl
  | shlRmvImm8 rm v | shrRmvImm8 rm v =>
    exact groupRmvImm8_encode (f := shiftDigit .shlRmvImm8 .shrRmvImm8) h v rest rfl
  | shlRm8One rm | shrRm8One rm =>
    exact groupRm8_encode (f := shiftDigit .shlRm8One .shrRm8One) h rest rfl
  | shlRmvOne rm | shrRmvOne rm =>
    exact groupRmv_encode (f := shiftDigit .shlRmvOne .shrRmvOne) h rest rfl
  | shlRm8Cl rm | shrRm8Cl rm =>
    exact groupRm8_encode (f := shiftDigit .shlRm8Cl .shrRm8Cl) h rest rfl
  | shlRmvCl rm | shrRmvCl rm =>
    exact groupRmv_encode (f := shiftDigit .shlRmvCl .shrRmvCl) h rest rfl
  | incRm8 rm | decRm8 rm =>
    exact groupRm8_encode (f := incDecDigit .incRm8 .decRm8) h rest rfl
  | incRmv rm | decRmv rm | pushRmv rm =>
    exact groupRmv_encode (f := groupFF) h rest rfl
  | popRmv rm =>
    exact groupRmv_encode (f := onlyDigit 0 .popRmv) h rest rfl
  | movAlMoffs a | movEaxMoffs a | movMoffsAl a | movMoffsEax a =>
    exact rowMoffs_encode h rest
  | movRm16Sreg rm x =>
    exact rowRm16Sreg_encode h x rest
  | movSregRm16 x rm =>
    exact rowSregRm16_encode h rest
  | movR32Cr x r c => exact rowCr_encode (f := fun x c r => .movR32Cr x r c) h x r rest
  | movCrR32 x c r => exact rowCr_encode (f := .movCrR32) h x r rest
  | movR32Dr x r n => exact rowDr_encode (f := fun x n r => .movR32Dr x r n) h x r rest
  | movDrR32 x n r => exact rowDr_encode (f := .movDrR32) h x r rest
  | movR32Tr x r n => exact rowTr_encode (f := fun x n r => .movR32Tr x r n) h x r rest
  | movTrR32 x n r => exact rowTr_encode (f := .movTrR32) h x r rest
  | movR8Imm8 r v =>
    cases r <;> rfl
  | movRvImm r v =>
    cases r <;> exact rowIz_encode h rest
  | incRv r | decRv r | pushRv r | popRv r =>
    cases r <;> rfl
  | pushEs | pushCs | pushSs | pushDs | pushFs | pushGs | popEs | popSs | popDs | popFs | popGs =>
    rfl
  | lgdt f =>
    exact group0F01_encode_lgdt h rest
  | lidt f =>
    exact group0F01_encode_lidt h rest

/-! The length of an encoding (R116). -/

@[simp] theorem half_bytes_length (v : Half) : (Half.bytes v).length = 2 := rfl

@[simp] theorem word_bytes_length (v : Word) : (Word.bytes v).length = 4 := rfl

@[simp] theorem disp16_encode_length (d : Disp16) : d.encode.length = d.length := by cases d <;> rfl

@[simp] theorem disp32_encode_length (d : Disp32) : d.encode.length = d.length := by cases d <;> rfl

@[simp] theorem moffs_encode_length (a : Moffs) : a.encode.length = a.length := by cases a <;> rfl

@[simp] theorem iz_encode_length (v : Iz) : v.encode.length = v.length := by cases v <;> rfl

@[simp] theorem mem_encode_length (f : MemForm) (reg : BitVec 3) : (f.encode reg).length = f.length := by
  cases f <;> simp [MemForm.encode, MemForm.length] <;> omega

@[simp] theorem rm8_encode_length (rm : Rm8) (reg : BitVec 3) : (rm.encode reg).length = rm.length := by
  cases rm with
  | reg r => rfl
  | mem f => exact mem_encode_length f reg

@[simp] theorem rmv_encode_length (rm : Rmv) (reg : BitVec 3) : (rm.encode reg).length = rm.length := by
  cases rm with
  | reg r => rfl
  | mem f => exact mem_encode_length f reg

/-- A byte before the rest of an encoding counts one. -/
theorem length_opcode {b : Byte} {bs : List Byte} {n : Nat} (h : bs.length = n) : (b :: bs).length = 1 + n := by
  rw [List.length_cons, h, Nat.add_comm]

/-- An opcode byte and the last byte count two. -/
theorem length_opcode_imm8 {b v : Byte} {bs : List Byte} {n : Nat} (h : bs.length = n) :
    (b :: bs ++ [v]).length = 2 + n := by
  rw [List.length_append, length_opcode h, List.length_singleton]
  omega

/-- An encoding has the number of bytes R116 counts. -/
theorem encode_length (i : Instr) : i.encode.length = i.length := by
  induction i with
  | segEs i ih | segCs i ih | segSs i ih | segDs i ih | segFs i ih | segGs i ih | opsize i ih | adsize i ih
  | lock i ih | repne i ih | rep i ih => exact length_opcode ih
  | addRm8Imm8 rm v | orRm8Imm8 rm v | adcRm8Imm8 rm v | sbbRm8Imm8 rm v | andRm8Imm8 rm v | subRm8Imm8 rm v
  | xorRm8Imm8 rm v | addRm8Imm8Alias rm v | orRm8Imm8Alias rm v | adcRm8Imm8Alias rm v | sbbRm8Imm8Alias rm v
  | andRm8Imm8Alias rm v | subRm8Imm8Alias rm v | xorRm8Imm8Alias rm v | movRm8Imm8 rm v | shlRm8Imm8 rm v
  | shrRm8Imm8 rm v => exact length_opcode_imm8 (rm8_encode_length rm _)
  | addRmvImm8 rm v | orRmvImm8 rm v | adcRmvImm8 rm v | sbbRmvImm8 rm v | andRmvImm8 rm v | subRmvImm8 rm v
  | xorRmvImm8 rm v | shlRmvImm8 rm v | shrRmvImm8 rm v => exact length_opcode_imm8 (rmv_encode_length rm _)
  | addRmvImm rm v | orRmvImm rm v | adcRmvImm rm v | sbbRmvImm rm v | andRmvImm rm v | subRmvImm rm v
  | xorRmvImm rm v | movRmvImm rm v =>
    exact List.length_append.trans (congrArg₂ (· + ·) (length_opcode (rmv_encode_length rm _)) (iz_encode_length v))
  | lgdt f | lidt f => exact (length_opcode (length_opcode (mem_encode_length f _))).trans (Nat.add_assoc 1 1 _).symm
  | movR8Imm8 r v | movR32Cr x r c | movR32Dr x r c | movR32Tr x r c | movCrR32 x c r | movDrR32 x c r
  | movTrR32 x c r | addAlImm8 v | orAlImm8 v | adcAlImm8 v | sbbAlImm8 v | andAlImm8 v | subAlImm8 v
  | xorAlImm8 v | pushImm8 v | incRv r | decRv r | pushRv r | popRv r | pushEs | pushCs | pushSs | pushDs | pushFs
  | pushGs | popEs | popSs | popDs | popFs | popGs => rfl
  | _ => exact length_opcode (by simp)

/-- Decoding the encoding of a well-formed instruction gives it back, whatever bytes follow (R102 to R121). -/
theorem decode_encode {m : CodeMode} {i : Instr} (h : i.wf m = true) (rest : List Byte) :
    decode m (i.encode ++ rest) = .ok i := by
  simp only [Instr.wf, Bool.and_eq_true, decide_eq_true_eq] at h
  obtain ⟨⟨hforms, hlock⟩, hlen⟩ := h
  rw [← encode_length] at hlen
  rw [decode, List.take_append, List.take_of_length_le hlen, decodeFrom_encode m i {} _ hforms]
  exact if_pos hlock

end Sys2Proof

namespace Sys2Proof.Machine

/-- Bytes in memory that are those of a list are read as that list. -/
theorem readFrom_eq_of_bytes {mem : Memory} {la : Word} {bs : List Byte}
    (h : ∀ k, k < bs.length → some (mem.read (la + BitVec.ofNat 32 k)) = bs[k]?) : mem.readFrom la bs.length = bs := by
  apply List.ext_getElem?
  intro k
  by_cases hk : k < bs.length
  · rw [readFrom_getElem? mem la hk, h k hk]
  · rw [List.getElem?_eq_none (by simpa using hk), List.getElem?_eq_none (by simpa using hk)]

/-- A longer read begins with the shorter one from the same address. -/
theorem readFrom_add (mem : Memory) (la : Word) (n k : Nat) :
    mem.readFrom la (n + k) = mem.readFrom la n ++ mem.readFrom (la + BitVec.ofNat 32 n) k := by
  induction n generalizing la with
  | zero => simp [Memory.readFrom]
  | succ n ih =>
    rw [Nat.add_right_comm, Memory.readFrom, ih, ← add_ofNat_succ]
    rfl

/-- Where an encoding lies at CS:EIP, the fetch begins with it. -/
theorem fetch_eq_encode_append {s : State} {i : Instr} (hlen : i.encode.length ≤ Config.maxLength)
    (hmem : ∀ k, k < i.encode.length → some (s.mem.read (s.codeAddress + BitVec.ofNat 32 k)) = i.encode[k]?) :
    ∃ rest, s.fetch = i.encode ++ rest := by
  obtain ⟨k, hk⟩ := Nat.exists_eq_add_of_le hlen
  rw [State.fetch, hk, readFrom_add, readFrom_eq_of_bytes hmem]
  exact ⟨_, rfl⟩

/-- Settles O8: the fetch begins with the encoding, which the decoder reads back. -/
theorem stepRunsInstructionInMemory : Obligations.StepRunsInstructionInMemory := by
  intro s i hrun hwf hmem
  have hlen : i.encode.length ≤ Config.maxLength := by
    rw [encode_length]
    exact of_decide_eq_true (Bool.and_eq_true_iff.1 hwf).2
  obtain ⟨rest, hfetch⟩ := fetch_eq_encode_append hlen hmem
  apply stepRunsDecodedInstruction s i hrun
  rw [hfetch, decode_encode hwf]

end Sys2Proof.Machine
end

section
/-! Memory through a segment, the addresses of memory operands and their segments, and the prefixes that only lengthen
an instruction (20_memory.md R71 to R85; 30_encoding.md R122; 46_repeat.md R234). -/

namespace Sys2Proof.Machine

/-! Where a segment access lies (R71). -/

/-- What an offset of the address size wraps at. -/
def addressModulus : Size → Nat
  | .s16 => 2 ^ 16
  | .s32 => 2 ^ 32

theorem toNat_and_low16 (v : Word) : (v &&& 0x0000FFFF#32).toNat = v.toNat % 2 ^ 16 := by
  rw [BitVec.toNat_and, show (0x0000FFFF#32 : Word).toNat = 2 ^ 16 - 1 by rfl, Nat.and_two_pow_sub_one_eq_mod]

theorem linear_toNat (g : SegReg) (off : Word) (z : Size) :
    (g.linear off z).toNat = (g.base.toNat + off.toNat % addressModulus z) % 2 ^ 32 := by
  cases z with
  | s16 => rw [SegReg.linear, BitVec.toNat_add, toNat_and_low16]; rfl
  | s32 => rw [SegReg.linear, BitVec.toNat_add, addressModulus, Nat.mod_eq_of_lt off.isLt]

/-- The offset of byte 0 wraps, the increment of a later byte does not. -/
theorem linear_add_ofNat (g : SegReg) (off : Word) (z : Size) (k : Nat) : g.linear off z + BitVec.ofNat 32 k =
    BitVec.ofNat 32 (g.base.toNat + off.toNat % addressModulus z + k) := by
  apply BitVec.eq_of_toNat_eq
  rw [BitVec.toNat_add, linear_toNat, BitVec.toNat_ofNat, BitVec.toNat_ofNat, ← Nat.add_mod]

/-- Any run of the bytes stored is read back, at its place (R72, R75). -/
theorem readFrom_writeFrom_slice (m : Memory) (la : Word) {bs : List Byte} (hl : bs.length ≤ 2 ^ 32) {k n : Nat}
    (h : k + n ≤ bs.length) : (m.writeFrom la bs).readFrom (la + BitVec.ofNat 32 k) n = (bs.drop k).take n := by
  have hlen : ((bs.drop k).take n).length = n := by
    rw [List.length_take, List.length_drop]
    omega
  have hread : (m.writeFrom la bs).readFrom (la + BitVec.ofNat 32 k) ((bs.drop k).take n).length =
      (bs.drop k).take n := by
    apply readFrom_eq_of_bytes
    intro j hj
    rw [hlen] at hj
    have hkj : k + j < bs.length := by omega
    rw [BitVec.add_assoc, ← BitVec.ofNat_add, read_writeFrom m la bs hl hkj, List.getElem?_take_of_lt hj,
      List.getElem?_drop, List.getElem?_eq_getElem hkj]
  rwa [hlen] at hread

/-- Settles O18: the clauses are those of a plain access, from the address `linear_add_ofNat` gives. -/
theorem segmentAccess : Obligations.SegmentAccess := by
  intro m g off z v hv first
  have hl : v.length ≤ 2 ^ 32 := hv.trans (by decide)
  have hfirst : first = g.base.toNat + off.toNat % addressModulus z := by
    cases z with
    | s16 => rfl
    | s32 => exact congrArg (g.base.toNat + ·) (Nat.mod_eq_of_lt off.isLt).symm
  have haddr : ∀ k, BitVec.ofNat 32 (first + k) = g.linear off z + BitVec.ofNat 32 k := fun k => by
    rw [hfirst, linear_add_ofNat]
  simp only [haddr]
  refine ⟨fun n k hk => readFrom_getElem? m _ hk, fun k hk => ?_, fun x => read_writeFrom_of_not_mem m _ x v,
    fun k n => readFrom_writeFrom_slice m _ hl⟩
  rw [segWrite, read_writeFrom m _ v hl hk, List.getElem?_eq_getElem hk]

/-! The offset and the segment of a memory operand (R81 to R83). -/

theorem addressPart_gpr16 (s : State) (r : Gpr) :
    (s.addressPart (some (r.id .s16))).toNat = (s.gpr.get r).toNat % 2 ^ 16 := by
  rw [State.addressPart, registerValue_of_view (ofId_gpr16 r), BitVec.toNat_ofNat, State.viewValue, gpr_get16_toNat]
  omega

theorem addressPart_gpr32 (s : State) (r : Gpr) : (s.addressPart (some (r.id .s32))).toNat = (s.gpr.get r).toNat := by
  rw [State.addressPart, registerValue_of_view (ofId_gpr32 r), State.viewValue, BitVec.ofNat_toNat, BitVec.setWidth_eq]

/-- The offset is the sum of its parts, wrapped once at the end. -/
theorem offset_toNat (s : State) (base index : Option Nat) (scale : Nat) (disp : Word) (z : Size) :
    (s.offset base index scale disp z).toNat = ((s.addressPart base).toNat +
      (s.addressPart index).toNat * scale + disp.toNat) % addressModulus z := by
  have hsum : (s.addressPart base + s.addressPart index * BitVec.ofNat 32 scale + disp).toNat =
      ((s.addressPart base).toNat + (s.addressPart index).toNat * scale + disp.toNat) % 2 ^ 32 := by
    simp [BitVec.toNat_add, BitVec.toNat_mul]
  cases z with
  | s16 =>
    rw [State.offset, toNat_and_low16, hsum]
    exact Nat.mod_mod_of_dvd _ (by decide)
  | s32 => exact hsum

/-- Settles O19: each register contributes its view of the address size, and the segment wraps nothing more. -/
theorem effectiveAddress : Obligations.EffectiveAddress := by
  intro s seg base index scale disp z value ids off
  have hvalue : ∀ o, (s.addressPart (ids o)).toNat = value o := by
    intro o
    cases o with
    | none => rfl
    | some r =>
      cases z with
      | s16 => exact addressPart_gpr16 s r
      | s32 => exact addressPart_gpr32 s r
  have hoff : (s.offset (ids base) (ids index) scale disp z).toNat =
      (value base + value index * scale + disp.toNat) % addressModulus z := by
    rw [offset_toNat, hvalue, hvalue]
  have hmod : off = (value base + value index * scale + disp.toNat) % addressModulus z := by cases z <;> rfl
  refine ⟨hoff.trans hmod.symm, ?_⟩
  rw [State.operandAddress, linear_toNat, hoff, Nat.mod_mod, hmod]

/-- The stack-pointer-class registers are the views of ESP and EBP. -/
theorem stackClass_gpr (r : Gpr) (z : Size) : stackClass (r.id z) = true ↔ r = .esp ∨ r = .ebp := by
  cases z <;> cases r <;> decide

/-- Settles O20: a base decides by its class. -/
theorem defaultSegment : Obligations.DefaultSegment := by
  refine ⟨fun x base => rfl, fun r z => ?_, rfl⟩
  simp only [operandSegment, stackClass_gpr]

/-! Prefixes that only lengthen the instruction (R78, R122, R234). -/

/-- What repeat prefixes and LOCK leave behind shows in the `rep`, `lock` and `len` of the record alone. -/
theorem record_rep_lock_count (m : CodeMode) (i : Instr) (p : Prefixes) (x : Rep) (l : Bool) (n : Nat) :
    ∃ x' l' n', Instr.record m { p with rep := x, lock := l, count := n } i =
      { Instr.record m p i with rep := x', lock := l', len := n' } := by
  induction i generalizing p x l n with
  | segEs i ih => exact ih (Pfx.es.apply p) _ _ _
  | segCs i ih => exact ih (Pfx.cs.apply p) _ _ _
  | segSs i ih => exact ih (Pfx.ss.apply p) _ _ _
  | segDs i ih => exact ih (Pfx.ds.apply p) _ _ _
  | segFs i ih => exact ih (Pfx.fs.apply p) _ _ _
  | segGs i ih => exact ih (Pfx.gs.apply p) _ _ _
  | opsize i ih => exact ih (Pfx.opsize.apply p) _ _ _
  | adsize i ih => exact ih (Pfx.adsize.apply p) _ _ _
  | lock i ih => exact ih (Pfx.lock.apply p) _ _ _
  | repne i ih => exact ih (Pfx.repne.apply p) _ _ _
  | rep i ih => exact ih (Pfx.rep.apply p) _ _ _
  | _ => exact ⟨_, _, _, rfl⟩

/-- No opcode class reads `rep`, `lock` or `len`. -/
theorem recordStep_rep_lock_len (r : Record) (s : State) (x : Rep) (l : Bool) (n : Nat) :
    recordStep { r with rep := x, lock := l, len := n } s = recordStep r s := by
  unfold recordStep
  cases r.op <;> rfl

/-- Behind a repeat prefix or LOCK an instruction takes its step as without it, and is a byte longer. -/
theorem exec_wrap_rep_lock {p : Pfx} (hp : p = .rep ∨ p = .repne ∨ p = .lock) (i : Instr) (s : State) :
    exec (p.wrap i) s = complete (i.length + 1) (recordStep (s.recordOf i) s) := by
  have hlen : (s.recordOf (p.wrap i)).len = i.length + 1 := by
    rw [State.recordOf, record_len, Nat.zero_add]
    obtain rfl | rfl | rfl := hp <;> exact Nat.add_comm 1 i.length
  have hrecord : ∃ x l n, s.recordOf (p.wrap i) = { s.recordOf i with rep := x, lock := l, len := n } := by
    obtain rfl | rfl | rfl := hp <;> exact record_rep_lock_count s.codeMode i {} _ _ _
  obtain ⟨x, l, n, hr⟩ := hrecord
  rw [exec_eq_complete, hlen, hr, recordStep_rep_lock_len]

/-- Settles O51: the step is one step with and without the prefix, and the advance alone sees the length. -/
theorem repAndLockDoNothing : Obligations.RepAndLockDoNothing := by
  intro s i p hp hcs
  rw [exec_wrap_rep_lock hp, exec_eq_complete]
  constructor
  · intro t ht
    obtain ⟨u, hu, rfl⟩ := complete_next.1 ht
    have hw : Writes (s.recordOf i) s u := recordStep_writes (record_shape s.codeMode i {}) hu
    have hcs' : u.seg.get .cs = s.seg.get .cs := by_contra fun hne => hcs (hw.of_seg hne)
    have heip : (u.advance (i.length + 1)).eip = s.eipAfter (i.length + 1) := advance_eip_eq hw.eip_same hcs' _
    rw [hu, ← heip]
    rfl
  · intro e he
    rw [complete_fault.1 he]
    rfl

end Sys2Proof.Machine
end

section
/-! What the decoder accepts: the bytes it read are the encoding of the instruction it answers (30_encoding.md R102 to
R121). -/

namespace Sys2Proof

/-! Each piece that is read is a piece of an encoding, and the bytes begin with it. -/

theorem half_bytes_le16 (b0 b1 : Byte) : Half.bytes (le16 b0 b1) = [b0, b1] := by
  have h0 : (le16 b0 b1).extractLsb' 0 8 = b0 := BitVec.extractLsb'_append_eq_right
  have h1 : (le16 b0 b1).extractLsb' 8 8 = b1 := BitVec.extractLsb'_append_eq_left
  rw [Half.bytes, h0, h1]

/-- Each byte of a little-endian word is one of the four it was put together from. -/
theorem le32_byte (b0 b1 b2 b3 : Byte) :
    (le32 b0 b1 b2 b3).extractLsb' 0 8 = b0 ∧ (le32 b0 b1 b2 b3).extractLsb' 8 8 = b1 ∧
    (le32 b0 b1 b2 b3).extractLsb' 16 8 = b2 ∧ (le32 b0 b1 b2 b3).extractLsb' 24 8 = b3 := by
  refine ⟨?_, ?_, ?_, ?_⟩ <;>
    (apply BitVec.eq_of_getLsbD_eq
     intro i hi
     simp only [le32, BitVec.getLsbD_append, BitVec.getLsbD_extractLsb']
     interval_cases i <;> simp)

theorem word_bytes_le32 (b0 b1 b2 b3 : Byte) : Word.bytes (le32 b0 b1 b2 b3) = [b0, b1, b2, b3] := by
  obtain ⟨h0, h1, h2, h3⟩ := le32_byte b0 b1 b2 b3
  rw [Word.bytes, h0, h1, h2, h3]

/-- `mod` announces no displacement, a short one or a full one; 11 is no memory form (R107). -/
theorem mode_cases {md : BitVec 2} : md ≠ 3 → md = 0 ∨ md = 1 ∨ md = 2 := by
  revert md
  decide

section
variable {bs rest : List Byte}

theorem readByte_ok {b : Byte} (h : readByte bs = .ok (b, rest)) : bs = b :: rest := by
  cases bs with
  | nil => cases h
  | cons c cs => cases h; rfl

theorem readHalf_ok {d : Half} (h : readHalf bs = .ok (d, rest)) : bs = Half.bytes d ++ rest := by
  match bs, h with
  | b0 :: b1 :: cs, h =>
    cases h
    rw [half_bytes_le16]
    rfl

theorem readWord_ok {d : Word} (h : readWord bs = .ok (d, rest)) : bs = Word.bytes d ++ rest := by
  match bs, h with
  | b0 :: b1 :: b2 :: b3 :: cs, h =>
    cases h
    rw [word_bytes_le32]
    rfl

theorem readModRM_ok {x : ModRM} (h : readModRM bs = .ok (x, rest)) : bs = modrm x.md x.reg x.rm :: rest := by
  cases bs with
  | nil => cases h
  | cons b cs => cases h; simp

theorem readDisp16_ok {md : BitVec 2} {d : Disp16} (hmd : md ≠ 3) (h : readDisp16 md bs = .ok (d, rest)) :
    d.mode = md ∧ bs = d.encode ++ rest := by
  obtain rfl | rfl | rfl := mode_cases hmd
  · cases h
    exact ⟨rfl, rfl⟩
  · obtain ⟨d, cs, hd, he⟩ := andThen_eq_ok h
    cases he
    exact ⟨rfl, readByte_ok hd⟩
  · obtain ⟨d, cs, hd, he⟩ := andThen_eq_ok h
    cases he
    exact ⟨rfl, readHalf_ok hd⟩

theorem readDisp32_ok {md : BitVec 2} {d : Disp32} (hmd : md ≠ 3) (h : readDisp32 md bs = .ok (d, rest)) :
    d.mode = md ∧ bs = d.encode ++ rest := by
  obtain rfl | rfl | rfl := mode_cases hmd
  · cases h
    exact ⟨rfl, rfl⟩
  · obtain ⟨d, cs, hd, he⟩ := andThen_eq_ok h
    cases he
    exact ⟨rfl, readByte_ok hd⟩
  · obtain ⟨d, cs, hd, he⟩ := andThen_eq_ok h
    cases he
    exact ⟨rfl, readWord_ok hd⟩

theorem gpr_ofBits_eq_iff {n : BitVec 3} {r : Gpr} : Gpr.ofBits n = r ↔ n = r.bits := by
  constructor
  · rintro rfl
    simp
  · rintro rfl
    simp

theorem base16_ofBits_eq_iff {n : BitVec 3} {r : Base16} : Base16.ofBits n = r ↔ n = r.bits := by
  constructor
  · rintro rfl
    simp
  · rintro rfl
    simp

theorem readMem16_ok {md : BitVec 2} {rm : BitVec 3} {f : MemForm} (hmd : md ≠ 3)
    (h : readMem16 md rm bs = .ok (f, rest)) :
    f.ok .s16 = true ∧ ∀ reg, modrm md reg rm :: bs = f.encode reg ++ rest := by
  unfold readMem16 at h
  split at h
  next hdirect =>
    obtain ⟨rfl, rfl⟩ := hdirect
    obtain ⟨d, cs, hd, he⟩ := andThen_eq_ok h
    cases he
    exact ⟨rfl, fun reg => by rw [readHalf_ok hd]; rfl⟩
  next hbased =>
    obtain ⟨d, cs, hd, he⟩ := andThen_eq_ok h
    cases he
    obtain ⟨rfl, rfl⟩ := readDisp16_ok hmd hd
    refine ⟨?_, fun reg => by simp [MemForm.encode]⟩
    have hbp : Base16.ofBits rm ≠ .bp ∨ d ≠ .d0 := by
      by_contra! hbare
      obtain ⟨hb, rfl⟩ := hbare
      exact hbased ⟨rfl, base16_ofBits_eq_iff.1 hb⟩
    simpa [MemForm.ok, MemForm.asz] using hbp

/-- EBP as a base without displacement is what `mod` 00 and base 101 would be, which mean a bare displacement (R110, R111). -/
theorem not_bare_ebp {n : BitVec 3} {d : Disp32} (h : ¬ (d.mode = 0 ∧ n = 5)) :
    Gpr.ofBits n ≠ .ebp ∨ d ≠ .d0 := by
  by_contra! hbare
  obtain ⟨hb, rfl⟩ := hbare
  exact h ⟨rfl, gpr_ofBits_eq_iff.1 hb⟩

theorem readSib_ok {md : BitVec 2} {f : MemForm} (hmd : md ≠ 3) (h : readSib md bs = .ok (f, rest)) :
    f.ok .s32 = true ∧ ∀ reg, modrm md reg 4 :: bs = f.encode reg ++ rest := by
  obtain ⟨b, cs, hb, hrest⟩ := andThen_eq_ok h
  obtain rfl := readByte_ok hb
  dsimp only at hrest
  split at hrest
  next hbare =>
    obtain ⟨rfl, hbase⟩ := hbare
    obtain ⟨d, ds, hd, he⟩ := andThen_eq_ok hrest
    cases he
    refine ⟨rfl, fun reg => ?_⟩
    rw [readWord_ok hd, MemForm.encode, gpr_bits_ofBits, scale_bits_ofBits, ← hbase, modrm_fields]
    rfl
  next hbased =>
    obtain ⟨d, ds, hd, he⟩ := andThen_eq_ok hrest
    cases he
    obtain ⟨rfl, rfl⟩ := readDisp32_ok hmd hd
    exact ⟨by simpa [MemForm.ok, MemForm.asz] using not_bare_ebp hbased, fun reg => by simp [MemForm.encode]⟩

theorem readMem32_ok {md : BitVec 2} {rm : BitVec 3} {f : MemForm} (hmd : md ≠ 3)
    (h : readMem32 md rm bs = .ok (f, rest)) :
    f.ok .s32 = true ∧ ∀ reg, modrm md reg rm :: bs = f.encode reg ++ rest := by
  unfold readMem32 at h
  split at h
  next hsib =>
    subst hsib
    exact readSib_ok hmd h
  next hsib =>
    split at h
    next hdirect =>
      obtain ⟨rfl, rfl⟩ := hdirect
      obtain ⟨d, cs, hd, he⟩ := andThen_eq_ok h
      cases he
      exact ⟨rfl, fun reg => by rw [readWord_ok hd]; rfl⟩
    next hbased =>
      obtain ⟨d, cs, hd, he⟩ := andThen_eq_ok h
      cases he
      obtain ⟨rfl, rfl⟩ := readDisp32_ok hmd hd
      have hesp : Gpr.ofBits rm ≠ .esp := fun hb => hsib (gpr_ofBits_eq_iff.1 hb)
      have hebp := not_bare_ebp hbased
      exact ⟨by simpa [MemForm.ok, MemForm.asz, hesp] using hebp, fun reg => by simp [MemForm.encode]⟩

/-- A memory form that is read has an encoding under the address size, and it is the bytes read (R109 to R112). -/
theorem readMem_ok {z : Size} {md : BitVec 2} {rm : BitVec 3} {f : MemForm} (hmd : md ≠ 3)
    (h : readMem z md rm bs = .ok (f, rest)) : f.ok z = true ∧ ∀ reg, modrm md reg rm :: bs = f.encode reg ++ rest := by
  cases z with
  | s16 => exact readMem16_ok hmd h
  | s32 => exact readMem32_ok hmd h

theorem readRm8_ok {z : Size} {x : ModRM} {rm : Rm8} (h : readRm8 z x bs = .ok (rm, rest)) :
    rm.ok z = true ∧ modrm x.md x.reg x.rm :: bs = rm.encode x.reg ++ rest := by
  unfold readRm8 at h
  split at h
  next hreg =>
    cases h
    exact ⟨rfl, by simp [Rm8.encode, hreg]⟩
  next hmem =>
    obtain ⟨f, cs, hf, he⟩ := andThen_eq_ok h
    cases he
    obtain ⟨hform, hbytes⟩ := readMem_ok hmem hf
    exact ⟨hform, hbytes x.reg⟩

theorem readRmv_ok {z : Size} {x : ModRM} {rm : Rmv} (h : readRmv z x bs = .ok (rm, rest)) :
    rm.ok z = true ∧ modrm x.md x.reg x.rm :: bs = rm.encode x.reg ++ rest := by
  unfold readRmv at h
  split at h
  next hreg =>
    cases h
    exact ⟨rfl, by simp [Rmv.encode, hreg]⟩
  next hmem =>
    obtain ⟨f, cs, hf, he⟩ := andThen_eq_ok h
    cases he
    obtain ⟨hform, hbytes⟩ := readMem_ok hmem hf
    exact ⟨hform, hbytes x.reg⟩

theorem readIz_ok {o : Size} {v : Iz} (h : readIz o bs = .ok (v, rest)) : v.ok o = true ∧ bs = v.encode ++ rest := by
  cases o with
  | s16 =>
    obtain ⟨v, cs, hv, he⟩ := andThen_eq_ok h
    cases he
    exact ⟨rfl, readHalf_ok hv⟩
  | s32 =>
    obtain ⟨v, cs, hv, he⟩ := andThen_eq_ok h
    cases he
    exact ⟨rfl, readWord_ok hv⟩

theorem readMoffs_ok {z : Size} {a : Moffs} (h : readMoffs z bs = .ok (a, rest)) :
    a.ok z = true ∧ bs = a.encode ++ rest := by
  cases z with
  | s16 =>
    obtain ⟨v, cs, hv, he⟩ := andThen_eq_ok h
    cases he
    exact ⟨rfl, readHalf_ok hv⟩
  | s32 =>
    obtain ⟨v, cs, hv, he⟩ := andThen_eq_ok h
    cases he
    exact ⟨rfl, readWord_ok hv⟩

end

/-! Each operand shape of the rows. -/

/-- What `r` reads behind the prefixes `p` has an encoding there, and the bytes `bs` begin with it. -/
def ReadsEncoding (m : CodeMode) (p : Prefixes) (bs : List Byte) (r : Read Instr) : Prop :=
  ∀ i rest, r = .ok (i, rest) → Instr.formsOk m p i = true ∧ bs = i.encode ++ rest

section
variable {m : CodeMode} {p : Prefixes} {b op : Byte} {bs cs : List Byte}

theorem readsEncoding_error (e : DecodeError) : ReadsEncoding m p bs (.error e) := fun _ _ h => nomatch h

theorem readsEncoding_ok {i : Instr} (hok : Instr.formsOk m p i = true) (henc : bs = i.encode ++ cs) :
    ReadsEncoding m p bs (.ok (i, cs)) := by
  intro j rest h
  cases h
  exact ⟨hok, henc⟩

theorem rowRm8R8_reads {f : Rm8 → Reg8 → Instr} (henc : ∀ rm r, (f rm r).encode = b :: rm.encode r.bits)
    (hok : ∀ rm r, Instr.formsOk m p (f rm r) = rm.ok (p.asz m)) :
    ReadsEncoding m p (b :: bs) (rowRm8R8 (p.asz m) f bs) := by
  intro i rest h
  obtain ⟨x, cs, hx, h⟩ := andThen_eq_ok h
  obtain ⟨rm, ds, hrm, he⟩ := andThen_eq_ok h
  cases he
  obtain ⟨hform, hbytes⟩ := readRm8_ok hrm
  rw [hok, henc, readModRM_ok hx, hbytes, reg8_bits_ofBits]
  exact ⟨hform, rfl⟩

theorem rowRmvRv_reads {f : Rmv → Gpr → Instr} (henc : ∀ rm r, (f rm r).encode = b :: rm.encode r.bits)
    (hok : ∀ rm r, Instr.formsOk m p (f rm r) = rm.ok (p.asz m)) :
    ReadsEncoding m p (b :: bs) (rowRmvRv (p.asz m) f bs) := by
  intro i rest h
  obtain ⟨x, cs, hx, h⟩ := andThen_eq_ok h
  obtain ⟨rm, ds, hrm, he⟩ := andThen_eq_ok h
  cases he
  obtain ⟨hform, hbytes⟩ := readRmv_ok hrm
  rw [hok, henc, readModRM_ok hx, hbytes, gpr_bits_ofBits]
  exact ⟨hform, rfl⟩

theorem rowImm8_reads {f : Byte → Instr} (henc : ∀ v, (f v).encode = [b, v])
    (hok : ∀ v, Instr.formsOk m p (f v) = true) : ReadsEncoding m p (b :: bs) (rowImm8 f bs) := by
  intro i rest h
  obtain ⟨v, cs, hv, he⟩ := andThen_eq_ok h
  cases he
  rw [hok, henc, readByte_ok hv]
  exact ⟨rfl, rfl⟩

theorem rowIz_reads {f : Iz → Instr} (henc : ∀ v, (f v).encode = b :: v.encode)
    (hok : ∀ v, Instr.formsOk m p (f v) = v.ok (p.osz m)) : ReadsEncoding m p (b :: bs) (rowIz (p.osz m) f bs) := by
  intro i rest h
  obtain ⟨v, cs, hv, he⟩ := andThen_eq_ok h
  cases he
  obtain ⟨hform, hbytes⟩ := readIz_ok hv
  rw [hok, henc, hbytes]
  exact ⟨hform, rfl⟩

theorem rowMoffs_reads {f : Moffs → Instr} (henc : ∀ a, (f a).encode = b :: a.encode)
    (hok : ∀ a, Instr.formsOk m p (f a) = a.ok (p.asz m)) :
    ReadsEncoding m p (b :: bs) (rowMoffs (p.asz m) f bs) := by
  intro i rest h
  obtain ⟨a, cs, ha, he⟩ := andThen_eq_ok h
  cases he
  obtain ⟨hform, hbytes⟩ := readMoffs_ok ha
  rw [hok, henc, hbytes]
  exact ⟨hform, rfl⟩

theorem groupRm8_reads {f : BitVec 3 → Option (Rm8 → Instr)}
    (hf : ∀ d g, f d = some g → ∀ rm, (g rm).encode = b :: rm.encode d ∧ Instr.formsOk m p (g rm) = rm.ok (p.asz m)) :
    ReadsEncoding m p (b :: bs) (groupRm8 (p.asz m) op f bs) := by
  intro i rest h
  obtain ⟨x, cs, hx, h⟩ := andThen_eq_ok h
  split at h
  next => cases h
  next g hg =>
    obtain ⟨rm, ds, hrm, he⟩ := andThen_eq_ok h
    cases he
    obtain ⟨hform, hbytes⟩ := readRm8_ok hrm
    obtain ⟨henc, hok⟩ := hf _ g hg rm
    rw [hok, henc, readModRM_ok hx, hbytes]
    exact ⟨hform, rfl⟩

theorem groupRmv_reads {f : BitVec 3 → Option (Rmv → Instr)}
    (hf : ∀ d g, f d = some g → ∀ rm, (g rm).encode = b :: rm.encode d ∧ Instr.formsOk m p (g rm) = rm.ok (p.asz m)) :
    ReadsEncoding m p (b :: bs) (groupRmv (p.asz m) op f bs) := by
  intro i rest h
  obtain ⟨x, cs, hx, h⟩ := andThen_eq_ok h
  split at h
  next => cases h
  next g hg =>
    obtain ⟨rm, ds, hrm, he⟩ := andThen_eq_ok h
    cases he
    obtain ⟨hform, hbytes⟩ := readRmv_ok hrm
    obtain ⟨henc, hok⟩ := hf _ g hg rm
    rw [hok, henc, readModRM_ok hx, hbytes]
    exact ⟨hform, rfl⟩

theorem groupRm8Imm8_reads {f : BitVec 3 → Option (Rm8 → Byte → Instr)}
    (hf : ∀ d g, f d = some g → ∀ rm v, (g rm v).encode = b :: rm.encode d ++ [v] ∧
      Instr.formsOk m p (g rm v) = rm.ok (p.asz m)) :
    ReadsEncoding m p (b :: bs) (groupRm8Imm8 (p.asz m) op f bs) := by
  intro i rest h
  obtain ⟨x, cs, hx, h⟩ := andThen_eq_ok h
  split at h
  next => cases h
  next g hg =>
    obtain ⟨rm, ds, hrm, h⟩ := andThen_eq_ok h
    obtain ⟨v, es, hv, he⟩ := andThen_eq_ok h
    cases he
    obtain ⟨hform, hbytes⟩ := readRm8_ok hrm
    obtain ⟨henc, hok⟩ := hf _ g hg rm v
    rw [hok, henc, readModRM_ok hx, hbytes, readByte_ok hv]
    exact ⟨hform, by simp⟩

theorem groupRmvImm8_reads {f : BitVec 3 → Option (Rmv → Byte → Instr)}
    (hf : ∀ d g, f d = some g → ∀ rm v, (g rm v).encode = b :: rm.encode d ++ [v] ∧
      Instr.formsOk m p (g rm v) = rm.ok (p.asz m)) :
    ReadsEncoding m p (b :: bs) (groupRmvImm8 (p.asz m) op f bs) := by
  intro i rest h
  obtain ⟨x, cs, hx, h⟩ := andThen_eq_ok h
  split at h
  next => cases h
  next g hg =>
    obtain ⟨rm, ds, hrm, h⟩ := andThen_eq_ok h
    obtain ⟨v, es, hv, he⟩ := andThen_eq_ok h
    cases he
    obtain ⟨hform, hbytes⟩ := readRmv_ok hrm
    obtain ⟨henc, hok⟩ := hf _ g hg rm v
    rw [hok, henc, readModRM_ok hx, hbytes, readByte_ok hv]
    exact ⟨hform, by simp⟩

theorem groupRmvIz_reads {f : BitVec 3 → Option (Rmv → Iz → Instr)}
    (hf : ∀ d g, f d = some g → ∀ rm v, (g rm v).encode = b :: rm.encode d ++ v.encode ∧
      Instr.formsOk m p (g rm v) = (rm.ok (p.asz m) && v.ok (p.osz m))) :
    ReadsEncoding m p (b :: bs) (groupRmvIz (p.asz m) (p.osz m) op f bs) := by
  intro i rest h
  obtain ⟨x, cs, hx, h⟩ := andThen_eq_ok h
  split at h
  next => cases h
  next g hg =>
    obtain ⟨rm, ds, hrm, h⟩ := andThen_eq_ok h
    obtain ⟨v, es, hv, he⟩ := andThen_eq_ok h
    cases he
    obtain ⟨hform, hbytes⟩ := readRmv_ok hrm
    obtain ⟨himm, hrest⟩ := readIz_ok hv
    obtain ⟨henc, hok⟩ := hf _ g hg rm v
    rw [hok, henc, readModRM_ok hx, hbytes, hrest, hform, himm]
    exact ⟨rfl, by simp⟩

/-! The digits of a group: what holds of each row under its own digit holds of every row the group answers. -/

section
variable {α : Type} {P : BitVec 3 → α → Prop}

theorem aluOp_digit_of_ofDigit {d : BitVec 3} {a : AluOp} : AluOp.ofDigit d = some a → a.digit = d := by
  revert d a
  decide

theorem forall_aluDigit {c : AluOp → α} (h : ∀ a, P a.digit (c a)) :
    ∀ d g, (AluOp.ofDigit d).map c = some g → P d g := by
  intro d g hg
  obtain ⟨a, ha, rfl⟩ := Option.map_eq_some_iff.1 hg
  exact aluOp_digit_of_ofDigit ha ▸ h a

theorem forall_onlyDigit {k : BitVec 3} {c : α} (h : P k c) : ∀ d g, onlyDigit k c d = some g → P d g := by
  intro d g hg
  obtain ⟨rfl, hc⟩ := Option.ite_none_right_eq_some.1 hg
  cases hc
  exact h

theorem forall_shiftDigit {shl shr : α} (h4 : P 4 shl) (h5 : P 5 shr) :
    ∀ d g, shiftDigit shl shr d = some g → P d g := by
  intro d g hg
  unfold shiftDigit at hg
  split_ifs at hg with h h'
  · cases hg
    exact h ▸ h4
  · cases hg
    exact h' ▸ h5

theorem forall_incDecDigit {inc dec : α} (h0 : P 0 inc) (h1 : P 1 dec) :
    ∀ d g, incDecDigit inc dec d = some g → P d g := by
  intro d g hg
  unfold incDecDigit at hg
  split_ifs at hg with h h'
  · cases hg
    exact h ▸ h0
  · cases hg
    exact h' ▸ h1

theorem forall_groupFF {P : BitVec 3 → (Rmv → Instr) → Prop} (h0 : P 0 .incRmv) (h1 : P 1 .decRmv)
    (h6 : P 6 .pushRmv) : ∀ d g, groupFF d = some g → P d g := by
  intro d g hg
  unfold groupFF at hg
  split_ifs at hg with h
  · cases hg
    exact h ▸ h6
  · exact forall_incDecDigit h0 h1 d g hg

end

/-! The rows with a register field of their own. -/

theorem rowRm16Sreg_reads : ReadsEncoding m p (0x8C#8 :: bs) (rowRm16Sreg (p.asz m) bs) := by
  intro i rest h
  obtain ⟨x, cs, hx, h⟩ := andThen_eq_ok h
  split at h
  next => cases h
  next s hs =>
    obtain ⟨rm, ds, hrm, he⟩ := andThen_eq_ok h
    cases he
    obtain ⟨hform, hbytes⟩ := readRmv_ok hrm
    rw [readModRM_ok hx, hbytes, ← sreg_ofBits_eq hs]
    exact ⟨hform, rfl⟩

theorem rowSregRm16_reads : ReadsEncoding m p (0x8E#8 :: bs) (rowSregRm16 (p.asz m) bs) := by
  intro i rest h
  obtain ⟨x, cs, hx, h⟩ := andThen_eq_ok h
  split at h
  next => cases h
  next s hs =>
    split at h
    next => cases h
    next hcs =>
      obtain ⟨rm, ds, hrm, he⟩ := andThen_eq_ok h
      cases he
      obtain ⟨hform, hbytes⟩ := readRmv_ok hrm
      rw [readModRM_ok hx, hbytes, ← sreg_ofBits_eq hs]
      exact ⟨by simp [Instr.formsOk, hform, hcs], rfl⟩

theorem rowCr_reads {f : BitVec 2 → Cr → Gpr → Instr}
    (henc : ∀ x c r, (f x c r).encode = [0x0F#8, b, modrm x c.bits r.bits])
    (hok : ∀ x c r, Instr.formsOk m p (f x c r) = (c != .cr1)) :
    ReadsEncoding m p (0x0F#8 :: b :: bs) (rowCr f bs) := by
  intro i rest h
  obtain ⟨⟨md, reg, rm⟩, cs, hx, h⟩ := andThen_eq_ok h
  have hfield : ∀ c : Cr, c ≠ .cr1 → reg = c.bits → f md c (Gpr.ofBits rm) = i → cs = rest →
      Instr.formsOk m p i = true ∧ 0x0F#8 :: b :: bs = i.encode ++ rest := by
    rintro c hc rfl rfl rfl
    rw [hok, henc, readModRM_ok hx, gpr_bits_ofBits]
    exact ⟨bne_iff_ne.2 hc, rfl⟩
  dsimp only at h
  split at h
  next h0 => cases h; exact hfield .cr0 (by decide) (BitVec.eq_of_toNat_eq h0) rfl rfl
  next h2 => cases h; exact hfield .cr2 (by decide) (BitVec.eq_of_toNat_eq h2) rfl rfl
  next h3 => cases h; exact hfield .cr3 (by decide) (BitVec.eq_of_toNat_eq h3) rfl rfl
  next => cases h

theorem rowDr_reads {f : BitVec 2 → Fin 8 → Gpr → Instr}
    (henc : ∀ x n r, (f x n r).encode = [0x0F#8, b, modrm x (regBits n) r.bits])
    (hok : ∀ x n r, Instr.formsOk m p (f x n r) = drAdmitted n) :
    ReadsEncoding m p (0x0F#8 :: b :: bs) (rowDr f bs) := by
  intro i rest h
  obtain ⟨x, cs, hx, h⟩ := andThen_eq_ok h
  split at h
  next hn =>
    cases h
    rw [hok, henc, readModRM_ok hx, gpr_bits_ofBits]
    exact ⟨hn, rfl⟩
  next => cases h

theorem rowTr_reads {f : BitVec 2 → Fin 8 → Gpr → Instr}
    (henc : ∀ x n r, (f x n r).encode = [0x0F#8, b, modrm x (regBits n) r.bits])
    (hok : ∀ x n r, Instr.formsOk m p (f x n r) = trAdmitted n) :
    ReadsEncoding m p (0x0F#8 :: b :: bs) (rowTr f bs) := by
  intro i rest h
  obtain ⟨x, cs, hx, h⟩ := andThen_eq_ok h
  split at h
  next hn =>
    cases h
    rw [hok, henc, readModRM_ok hx, gpr_bits_ofBits]
    exact ⟨hn, rfl⟩
  next => cases h

/-- LGDT or LIDT, once its digit is read: memory only, and the form read is the one encoded. -/
theorem tableRow_ok {g : MemForm → Instr} {x : ModRM} {rest : List Byte} {i : Instr}
    (henc : ∀ f, (g f).encode = 0x0F#8 :: 0x01#8 :: f.encode x.reg)
    (hok : ∀ f, Instr.formsOk m p (g f) = f.ok (p.asz m))
    (h : (if x.md = 3 then Except.error DecodeError.memoryOnly else
      Read.andThen (readMem (p.asz m) x.md x.rm cs) fun f bs => .ok (g f, bs)) = .ok (i, rest)) :
    Instr.formsOk m p i = true ∧ 0x0F#8 :: 0x01#8 :: modrm x.md x.reg x.rm :: cs = i.encode ++ rest := by
  split at h
  next => cases h
  next hmd =>
    obtain ⟨f, ds, hf, he⟩ := andThen_eq_ok h
    cases he
    obtain ⟨hform, hbytes⟩ := readMem_ok hmd hf
    rw [hok, henc, hbytes]
    exact ⟨hform, rfl⟩

theorem group0F01_reads : ReadsEncoding m p (0x0F#8 :: 0x01#8 :: bs) (group0F01 (p.asz m) bs) := by
  intro i rest h
  obtain ⟨⟨md, reg, rm⟩, cs, hx, h⟩ := andThen_eq_ok h
  rw [readModRM_ok hx]
  dsimp only at h
  split at h
  next h2 =>
    obtain rfl : reg = 2 := BitVec.eq_of_toNat_eq h2
    exact tableRow_ok (x := ⟨md, 2, rm⟩) (fun _ => rfl) (fun _ => rfl) h
  next h3 =>
    obtain rfl : reg = 3 := BitVec.eq_of_toNat_eq h3
    exact tableRow_ok (x := ⟨md, 3, rm⟩) (fun _ => rfl) (fun _ => rfl) h
  next => cases h

/-! The opcode maps. -/

theorem byte_ofNat_toNat (b : Byte) : ∃ n, b.toNat = n ∧ b = BitVec.ofNat 8 n := ⟨_, rfl, by simp⟩

/-- The second opcode byte: each arm of the map, in its order, is read by the shape of its row. -/
theorem decode0F_reads : ReadsEncoding m p (0x0F#8 :: b :: bs) (decode0F (p.asz m) b bs) := by
  obtain ⟨n, hn, rfl⟩ := byte_ofNat_toNat b
  unfold decode0F
  rw [hn]
  split
  case h_1 => exact group0F01_reads
  case h_2 | h_4 => exact rowCr_reads (fun _ _ _ => rfl) fun _ _ _ => rfl
  case h_3 | h_5 => exact rowDr_reads (fun _ _ _ => rfl) fun _ _ _ => rfl
  case h_6 | h_7 => exact rowTr_reads (fun _ _ _ => rfl) fun _ _ _ => rfl
  case h_8 | h_9 | h_10 | h_11 => exact readsEncoding_ok rfl rfl
  case h_12 => exact readsEncoding_error _

/-- The one-byte opcodes: each arm of the map, in its order, is read by the shape of its row. Only the groups need more: what
each of their digits stands for. -/
theorem decodePlain_reads : ReadsEncoding m p (b :: bs) (decodePlain (p.asz m) (p.osz m) b bs) := by
  obtain ⟨n, hn, rfl⟩ := byte_ofNat_toNat b
  unfold decodePlain
  rw [hn]
  split
  case h_1 | h_3 | h_9 | h_11 | h_17 | h_19 | h_25 | h_27 | h_33 | h_35 | h_39 | h_41 | h_45 | h_47 | h_57 | h_59 =>
    exact rowRm8R8_reads (fun _ _ => rfl) fun _ _ => rfl
  case h_2 | h_4 | h_10 | h_12 | h_18 | h_20 | h_26 | h_28 | h_34 | h_36 | h_40 | h_42 | h_46 | h_48 | h_58 | h_60 =>
    exact rowRmvRv_reads (fun _ _ => rfl) fun _ _ => rfl
  case h_5 | h_13 | h_21 | h_29 | h_37 | h_43 | h_49 | h_52 => exact rowImm8_reads (fun _ => rfl) fun _ => rfl
  case h_6 | h_14 | h_22 | h_30 | h_38 | h_44 | h_50 | h_51 => exact rowIz_reads (fun _ => rfl) fun _ => rfl
  case h_7 | h_8 | h_15 | h_23 | h_24 | h_31 | h_32 => exact readsEncoding_ok rfl rfl
  case h_16 =>
    intro i rest h
    obtain ⟨c, cs, hc, h⟩ := andThen_eq_ok h
    rw [readByte_ok hc]
    exact decode0F_reads i rest h
  case h_53 | h_55 => exact groupRm8Imm8_reads (forall_aluDigit fun a _ _ => by cases a <;> exact ⟨rfl, rfl⟩)
  case h_54 => exact groupRmvIz_reads (forall_aluDigit fun a _ _ => by cases a <;> exact ⟨rfl, rfl⟩)
  case h_56 => exact groupRmvImm8_reads (forall_aluDigit fun a _ _ => by cases a <;> exact ⟨rfl, rfl⟩)
  case h_61 => exact rowRm16Sreg_reads
  case h_62 => exact rowSregRm16_reads
  case h_63 => exact groupRmv_reads (forall_onlyDigit fun _ => ⟨rfl, rfl⟩)
  case h_64 | h_65 | h_66 | h_67 => exact rowMoffs_reads (fun _ => rfl) fun _ => rfl
  case h_68 => exact groupRm8Imm8_reads (forall_shiftDigit (fun _ _ => ⟨rfl, rfl⟩) fun _ _ => ⟨rfl, rfl⟩)
  case h_69 => exact groupRmvImm8_reads (forall_shiftDigit (fun _ _ => ⟨rfl, rfl⟩) fun _ _ => ⟨rfl, rfl⟩)
  case h_70 => exact groupRm8Imm8_reads (forall_onlyDigit fun _ _ => ⟨rfl, rfl⟩)
  case h_71 => exact groupRmvIz_reads (forall_onlyDigit fun _ _ => ⟨rfl, rfl⟩)
  case h_72 | h_74 => exact groupRm8_reads (forall_shiftDigit (fun _ => ⟨rfl, rfl⟩) fun _ => ⟨rfl, rfl⟩)
  case h_73 | h_75 => exact groupRmv_reads (forall_shiftDigit (fun _ => ⟨rfl, rfl⟩) fun _ => ⟨rfl, rfl⟩)
  case h_76 => exact groupRm8_reads (forall_incDecDigit (fun _ => ⟨rfl, rfl⟩) fun _ => ⟨rfl, rfl⟩)
  case h_77 => exact groupRmv_reads (forall_groupFF (fun _ => ⟨rfl, rfl⟩) (fun _ => ⟨rfl, rfl⟩) fun _ => ⟨rfl, rfl⟩)
  case h_78 => exact readsEncoding_error _

/-- The byte of a `+r` row is its opcode with the register field (R115). -/
theorem plusR_fields {b : Byte} {n : Nat} (h : b.toNat / 8 = n) :
    plusR (BitVec.ofNat 8 (8 * n)) (b.extractLsb' 0 3) = b := by
  subst h
  revert b
  decide

/-- An opcode with a register in its low bits, or one of the others. -/
theorem decodeOpcode_reads : ReadsEncoding m p (b :: bs) (decodeOpcode m p b bs) := by
  unfold decodeOpcode
  dsimp only
  split
  case h_1 | h_2 | h_3 | h_4 =>
    rename_i h
    exact readsEncoding_ok rfl (by rw [Instr.encode, gpr_bits_ofBits]; exact congrArg (· :: bs) (plusR_fields h).symm)
  case h_5 =>
    rename_i h
    exact rowImm8_reads (fun v => by rw [Instr.encode, reg8_bits_ofBits]; exact congrArg (· :: [v]) (plusR_fields h))
      fun _ => rfl
  case h_6 =>
    rename_i h
    exact rowIz_reads (fun v => by rw [Instr.encode, gpr_bits_ofBits]; exact congrArg (· :: v.encode) (plusR_fields h))
      fun _ => rfl
  case h_7 => exact decodePlain_reads

end

/-! Prefixes, and the whole instruction. -/

theorem formsOk_wrap (m : CodeMode) (p : Prefixes) (x : Pfx) (i : Instr) :
    Instr.formsOk m p (x.wrap i) = Instr.formsOk m (x.apply p) i := by cases x <;> rfl

theorem record_wrap (m : CodeMode) (p : Prefixes) (x : Pfx) (i : Instr) :
    Instr.record m p (x.wrap i) = Instr.record m (x.apply p) i := by cases x <;> rfl

theorem encode_wrap (x : Pfx) (i : Instr) : (x.wrap i).encode = x.byte :: i.encode := by cases x <;> rfl

theorem pfx_ofByte_iff {b : Byte} {x : Pfx} : Pfx.ofByte? b = some x ↔ b = x.byte := by
  revert b
  cases x <;> decide

/-- Whatever is read behind any prefixes has an encoding there, and the bytes begin with it. -/
theorem decodeFrom_reads (m : CodeMode) (p : Prefixes) (bs : List Byte) :
    ReadsEncoding m p bs (decodeFrom m p bs) := by
  induction bs generalizing p with
  | nil => exact readsEncoding_error _
  | cons b bs ih =>
    unfold decodeFrom
    split
    next x hx =>
      obtain rfl := pfx_ofByte_iff.1 hx
      split
      next i cs hi =>
        obtain ⟨hform, hbytes⟩ := ih _ i cs hi
        exact readsEncoding_ok (by rw [formsOk_wrap, hform]) (by rw [encode_wrap, hbytes]; rfl)
      next => exact readsEncoding_error _
    next => exact decodeOpcode_reads

/-- What the decoder accepts it has read from the first bytes, and LOCK stands there only where it may (R102, R120). -/
theorem decode_ok {m : CodeMode} {bs : List Byte} {i : Instr} (h : decode m bs = .ok i) :
    (∃ rest, decodeFrom m {} (bs.take Config.maxLength) = .ok (i, rest)) ∧ (Instr.record m {} i).lockOk = true := by
  unfold decode at h
  split at h
  next => cases h
  next j rest hj =>
    split_ifs at h with hlock
    cases h
    exact ⟨⟨rest, hj⟩, hlock⟩

/-- Settles O2: the bytes read are the encoding, and they are among the first 15. -/
theorem encodeOfDecode : Obligations.EncodeOfDecode := by
  intro m bs i h
  obtain ⟨⟨rest, hread⟩, hlock⟩ := decode_ok h
  obtain ⟨hform, hbytes⟩ := decodeFrom_reads m {} _ i rest hread
  have hprefix : i.encode <+: bs.take Config.maxLength := ⟨rest, hbytes.symm⟩
  have hlen : i.length ≤ Config.maxLength := by
    rw [← encode_length]
    exact hprefix.length_le.trans (List.length_take_le _ _)
  exact ⟨by simp [Instr.wf, hform, hlock, hlen], hprefix.trans (List.take_prefix _ _)⟩

end Sys2Proof
end

section
/-! The refusals of R120: the fields that name no row, behind any prefixes, and LOCK. -/

namespace Sys2Proof

/-! The fields of a ModRM byte in numbers (R107). -/

theorem modrm_reg_toNat (x : Byte) : (x.extractLsb' 3 3).toNat = x.toNat / 8 % 8 := by
  rw [BitVec.extractLsb'_toNat, Nat.shiftRight_eq_div_pow]

theorem modrm_md_toNat (x : Byte) : (x.extractLsb' 6 2).toNat = x.toNat / 64 := by
  have hx : x.toNat < 256 := x.isLt
  rw [BitVec.extractLsb'_toNat, Nat.shiftRight_eq_div_pow]
  omega

/-! What each field refuses. -/

section
variable {z o : Size} {b x : Byte} {bs : List Byte} {y : Instr × List Byte}

theorem readModRM_cons (x : Byte) (bs : List Byte) :
    readModRM (x :: bs) = .ok (⟨x.extractLsb' 6 2, x.extractLsb' 3 3, x.extractLsb' 0 3⟩, bs) := rfl

theorem sreg_ofBits_none {d : BitVec 3} : 6 ≤ d.toNat → Sreg.ofBits? d = none := by
  revert d
  decide

theorem incDecDigit_none {α : Type} {inc dec : α} {d : BitVec 3} (h : 2 ≤ d.toNat) : incDecDigit inc dec d = none := by
  have h0 : d ≠ 0 := by rintro rfl; exact absurd h (by decide)
  have h1 : d ≠ 1 := by rintro rfl; exact absurd h (by decide)
  rw [incDecDigit, if_neg h0, if_neg h1]

theorem onlyDigit_none {α : Type} {g : α} {d : BitVec 3} (h : d.toNat ≠ 0) : onlyDigit 0 g d = none :=
  if_neg (by rintro rfl; exact h rfl)

theorem rowRm16Sreg_refuses (h : 6 ≤ (x.extractLsb' 3 3).toNat) : rowRm16Sreg z (x :: bs) ≠ .ok y := by
  simp [rowRm16Sreg, readModRM_cons, sreg_ofBits_none h]

theorem rowSregRm16_refuses (h : (x.extractLsb' 3 3).toNat = 1 ∨ 6 ≤ (x.extractLsb' 3 3).toNat) :
    rowSregRm16 z (x :: bs) ≠ .ok y := by
  obtain h | h := h
  · have hcs : x.extractLsb' 3 3 = Sreg.cs.bits := BitVec.eq_of_toNat_eq h
    simp [rowSregRm16, readModRM_cons, hcs]
  · simp [rowSregRm16, readModRM_cons, sreg_ofBits_none h]

theorem rowCr_refuses {f : BitVec 2 → Cr → Gpr → Instr}
    (h : (x.extractLsb' 3 3).toNat = 1 ∨ 4 ≤ (x.extractLsb' 3 3).toNat) : rowCr f (x :: bs) ≠ .ok y := by
  rw [rowCr, readModRM_cons, andThen_ok]
  dsimp only
  split
  case h_1 | h_2 | h_3 => omega
  case h_4 => nofun

theorem rowDr_refuses {f : BitVec 2 → Fin 8 → Gpr → Instr}
    (h : (x.extractLsb' 3 3).toNat = 4 ∨ (x.extractLsb' 3 3).toNat = 5) : rowDr f (x :: bs) ≠ .ok y := by
  have hn : drAdmitted (x.extractLsb' 3 3).toFin = false := by
    generalize x.extractLsb' 3 3 = d at h
    revert d
    decide
  rw [rowDr, readModRM_cons, andThen_ok, if_neg (by rw [hn]; decide)]
  nofun

theorem rowTr_refuses {f : BitVec 2 → Fin 8 → Gpr → Instr} (h : (x.extractLsb' 3 3).toNat ≤ 2) :
    rowTr f (x :: bs) ≠ .ok y := by
  have hn : trAdmitted (x.extractLsb' 3 3).toFin = false :=
    decide_eq_false (Nat.not_le_of_lt (Nat.lt_succ_of_le h))
  rw [rowTr, readModRM_cons, andThen_ok, if_neg (by rw [hn]; decide)]
  nofun

theorem group0F01_refuses (h : ((x.extractLsb' 3 3).toNat = 2 ∨ (x.extractLsb' 3 3).toNat = 3) ∧
    (x.extractLsb' 6 2).toNat = 3) :
    group0F01 z (x :: bs) ≠ .ok y := by
  obtain ⟨hreg, hmd⟩ := h
  have hmd : x.extractLsb' 6 2 = 3 := BitVec.eq_of_toNat_eq hmd
  rw [group0F01, readModRM_cons, andThen_ok]
  obtain h | h := hreg <;> simp [h, hmd]

theorem groupRm8_refuses {f : BitVec 3 → Option (Rm8 → Instr)} (h : f (x.extractLsb' 3 3) = none) :
    groupRm8 z b f (x :: bs) ≠ .ok y := by
  simp [groupRm8, readModRM_cons, h]

theorem groupRmv_refuses {f : BitVec 3 → Option (Rmv → Instr)} (h : f (x.extractLsb' 3 3) = none) :
    groupRmv z b f (x :: bs) ≠ .ok y := by
  simp [groupRmv, readModRM_cons, h]

theorem groupRm8Imm8_refuses {f : BitVec 3 → Option (Rm8 → Byte → Instr)} (h : f (x.extractLsb' 3 3) = none) :
    groupRm8Imm8 z b f (x :: bs) ≠ .ok y := by
  simp [groupRm8Imm8, readModRM_cons, h]

theorem groupRmvIz_refuses {f : BitVec 3 → Option (Rmv → Iz → Instr)} (h : f (x.extractLsb' 3 3) = none) :
    groupRmvIz z o b f (x :: bs) ≠ .ok y := by
  simp [groupRmvIz, readModRM_cons, h]

end

/-- Behind any prefixes the bytes R120 names are read as no instruction. -/
theorem decodeFrom_refuses (m : CodeMode) (p : Prefixes) {op : List Byte} {x : Byte} (bs : List Byte)
    (h : refusedEncoding op x = true) (y : Instr × List Byte) : decodeFrom m p (op ++ x :: bs) ≠ .ok y := by
  simp only [refusedEncoding, ← modrm_reg_toNat, ← modrm_md_toNat] at h
  split at h
  case h_1 => exact rowRm16Sreg_refuses (of_decide_eq_true h)
  case h_2 => exact rowSregRm16_refuses (of_decide_eq_true h)
  case h_3 => exact rowCr_refuses (f := fun x c r => .movR32Cr x r c) (of_decide_eq_true h)
  case h_4 => exact rowCr_refuses (f := .movCrR32) (of_decide_eq_true h)
  case h_5 => exact rowDr_refuses (f := fun x n r => .movR32Dr x r n) (of_decide_eq_true h)
  case h_6 => exact rowDr_refuses (f := .movDrR32) (of_decide_eq_true h)
  case h_7 => exact rowTr_refuses (f := fun x n r => .movR32Tr x r n) (of_decide_eq_true h)
  case h_8 => exact rowTr_refuses (f := .movTrR32) (of_decide_eq_true h)
  case h_9 => exact group0F01_refuses (of_decide_eq_true h)
  case h_10 => exact groupRm8_refuses (incDecDigit_none (of_decide_eq_true h))
  case h_11 => exact groupRmv_refuses (onlyDigit_none (of_decide_eq_true h))
  case h_12 => exact groupRm8Imm8_refuses (onlyDigit_none (of_decide_eq_true h))
  case h_13 => exact groupRmvIz_refuses (onlyDigit_none (of_decide_eq_true h))
  case h_14 => cases h

/-- What is read behind prefix bytes is read behind the prefixes they are. -/
theorem decodeFrom_prefixes {m : CodeMode} {p : Prefixes} {ps : List Pfx} {bs rest : List Byte} {i : Instr}
    (h : decodeFrom m p (ps.map Pfx.byte ++ bs) = .ok (i, rest)) : ∃ q j, decodeFrom m q bs = .ok (j, rest) := by
  induction ps generalizing p i with
  | nil => exact ⟨p, i, h⟩
  | cons x ps ih =>
    rw [List.map_cons, List.cons_append, decodeFrom, pfx_ofByte_iff.2 rfl] at h
    dsimp only at h
    split at h
    next j cs hj =>
      cases h
      exact ih hj
    next => cases h

theorem formsOk_of_wf {m : CodeMode} {i : Instr} (h : i.wf m = true) : Instr.formsOk m {} i = true := by
  simp only [Instr.wf, Bool.and_eq_true] at h
  obtain ⟨⟨hforms, -⟩, -⟩ := h
  exact hforms

/-- The bytes past the first 15 do not matter to what is accepted (R102). -/
theorem decodeFrom_of_decode {m : CodeMode} {bs : List Byte} {i : Instr} (h : decode m bs = .ok i) :
    ∃ rest, decodeFrom m {} bs = .ok (i, rest) := by
  obtain ⟨hwf, rest, rfl⟩ := encodeOfDecode m bs i h
  exact ⟨rest, decodeFrom_encode m i {} rest (formsOk_of_wf hwf)⟩

/-- Where LOCK is allowed the record is of one of the nine classes and its destination is memory. -/
theorem mayLock_of_lockable {r : Record} (h : r.lockable = true) : r.mayLock := by
  unfold Record.lockable at h
  split at h
  case h_10 => cases h
  all_goals
    rename_i hop ho
    exact ⟨by simp [hop], _, _, _, _, _, Machine.operand_zero ho⟩

/-- Settles O5: a refused field is refused behind any prefixes; and LOCK is accepted only where the record is lockable. -/
theorem refusedEncodings : Obligations.RefusedEncodings := by
  refine ⟨fun m ps op x rest i hrefused h => ?_, fun m bs i h hlock => ?_⟩
  · obtain ⟨cs, hread⟩ := decodeFrom_of_decode h
    rw [List.append_assoc] at hread
    obtain ⟨q, j, hj⟩ := decodeFrom_prefixes hread
    exact decodeFrom_refuses m q rest hrefused _ hj
  · obtain ⟨-, hok⟩ := decode_ok h
    rw [Record.lockOk, hlock] at hok
    exact mayLock_of_lockable hok

end Sys2Proof
end

section
/-! The round trip from the instruction, its length, and words written out from the opcode map (30_encoding.md R100, R116,
R118). -/

namespace Sys2Proof

/-- Settles O1, from the encoder's side of the round trip. -/
theorem decodeOfEncode : Obligations.DecodeOfEncode := fun _ _ rest h => decode_encode h rest

/-- Settles O3: the encoding is as long as R116 counts, and so is the record without prefixes before it. -/
theorem lengthOfEncoding : Obligations.LengthOfEncoding := by
  refine fun m i => ⟨encode_length i, ?_⟩
  rw [Machine.record_len, Nat.zero_add]

/-- Settles O4: each word decodes as the opcode map says, by evaluation of the decoder. -/
theorem sampleEncodingsDecode : Obligations.SampleEncodingsDecode :=
  ⟨rfl, rfl, rfl, rfl, rfl, rfl, rfl, rfl, rfl, rfl, rfl, rfl, rfl⟩

end Sys2Proof
end

section
/-! From the bytes of an instruction to its record, by the rows of the opcode map (30_encoding.md R103 to R118, R122). -/

namespace Sys2Proof

/-! Numbers in bytes: what stands from byte k on is what the bytes from there begin with. -/

theorem byteAt_drop (e : List Byte) (k j : Nat) : byteAt e (k + j) = byteAt (e.drop k) j := by
  simp [byteAt, List.getD_eq_getElem?_getD]

theorem numberFrom_drop (e : List Byte) (k j n : Nat) : numberFrom e (k + j) n = numberFrom (e.drop k) j n := by
  simp only [numberFrom, ← byteAt_drop, Nat.add_assoc]

theorem displacement_drop (e : List Byte) (k j n : Nat) : displacement e (k + j) n = displacement (e.drop k) j n := by
  simp only [displacement, numberFrom_drop]

theorem memoryAt_drop (z : Size) (e : List Byte) (k : Nat) : memoryAt z e k = memoryAt z (e.drop k) 0 := by
  have hb : byteAt e k = byteAt (e.drop k) 0 := byteAt_drop e k 0
  simp only [memoryAt, hb, byteAt_drop e k 1, displacement_drop, Nat.zero_add]

/-- The first bytes as a number (R113). -/
theorem numberFrom_append (bs cs : List Byte) : numberFrom (bs ++ cs) 0 bs.length = leNat bs := by
  induction bs with
  | nil => rfl
  | cons b bs ih =>
    have htail : ∀ j, byteAt (b :: bs ++ cs) (0 + (j + 1)) * 256 ^ (j + 1) = 256 * (byteAt (bs ++ cs) (0 + j) * 256 ^ j) := by
      intro j
      rw [Nat.zero_add, Nat.zero_add, Nat.pow_succ]
      show byteAt (bs ++ cs) j * _ = _
      ring
    rw [leNat_cons, ← ih, numberFrom, numberFrom, List.length_cons, List.range_succ_eq_map, List.map_cons, List.sum_cons,
      List.map_map, ← List.sum_map_mul_left]
    congr 1
    · exact Nat.mul_one _
    · exact congrArg List.sum (List.map_congr_left fun j _ => htail j)

/-- The last bytes as a number. -/
theorem numberFrom_last (bs cs : List Byte) :
    numberFrom (bs ++ cs) ((bs ++ cs).length - cs.length) cs.length = leNat cs := by
  rw [List.length_append, Nat.add_sub_cancel, ← Nat.add_zero bs.length, numberFrom_drop, List.drop_left]
  simpa using numberFrom_append cs []

theorem half_bytes_leNat (d : Half) : leNat (Half.bytes d) = d.toNat := by
  have hd : d.toNat < 65536 := d.isLt
  simp only [Half.bytes, leNat_cons, leNat_nil, BitVec.extractLsb'_toNat, Nat.shiftRight_eq_div_pow]
  omega

theorem word_bytes_leNat (d : Word) : leNat (Word.bytes d) = d.toNat := by
  have hd : d.toNat < 4294967296 := d.isLt
  simp only [Word.bytes, leNat_cons, leNat_nil, BitVec.extractLsb'_toNat, Nat.shiftRight_eq_div_pow]
  omega

/-- A displacement is read sign-extended (R112). -/
theorem displacement_append {bs : List Byte} {d : BitVec (8 * bs.length)} (h : leNat bs = d.toNat) (cs : List Byte) :
    displacement (bs ++ cs) 0 bs.length = d.signExtend 32 := by
  have hpow : 2 ^ (8 * bs.length) = 256 ^ bs.length := Nat.pow_mul 2 8 bs.length
  have hint : (if 256 ^ bs.length ≤ 2 * d.toNat then (d.toNat : Int) - 256 ^ bs.length else d.toNat) = d.toInt := by
    rw [BitVec.toInt_eq_toNat_cond, hpow, Nat.cast_pow]
    by_cases hneg : 256 ^ bs.length ≤ 2 * d.toNat
    · rw [if_pos hneg, if_neg (Nat.not_lt.2 hneg)]
      rfl
    · rw [if_neg hneg, if_pos (Nat.not_le.1 hneg)]
  simp only [displacement, numberFrom_append, h, hint]
  rfl

theorem displacement_disp16 (d : Disp16) (cs : List Byte) :
    displacement (d.encode ++ cs) 0 d.mode.toNat = d.value := by
  cases d with
  | d0 => rfl
  | d8 d => exact displacement_append (bs := [d]) (d := d) rfl cs
  | d16 d => exact displacement_append (bs := Half.bytes d) (d := d) (half_bytes_leNat d) cs

theorem displacement_word (d : Word) (cs : List Byte) : displacement (Word.bytes d ++ cs) 0 4 = d :=
  (displacement_append (bs := Word.bytes d) (d := d) (word_bytes_leNat d) cs).trans (BitVec.signExtend_eq d)

theorem displacement_disp32 (d : Disp32) (cs : List Byte) :
    displacement (d.encode ++ cs) 0 (if d.mode.toNat = 2 then 4 else d.mode.toNat) = d.value := by
  cases d with
  | d0 => rfl
  | d8 d => exact displacement_append (bs := [d]) (d := d) rfl cs
  | d32 d => exact displacement_word d cs

/-! The fields of an encoded ModRM or SIB byte (R107, R111). -/

theorem modrm_toNat (md : BitVec 2) (reg rm : BitVec 3) :
    (modrm md reg rm).toNat / 64 = md.toNat ∧ (modrm md reg rm).toNat / 8 % 8 = reg.toNat ∧
    (modrm md reg rm).toNat % 8 = rm.toNat := by
  revert md reg rm
  decide

section
variable {z o : Size} {e bs : List Byte} {k : Nat} {md : BitVec 2} {reg rm : BitVec 3}

theorem byteAt_modrm (h : e.drop k = modrm md reg rm :: bs) :
    byteAt e k / 64 = md.toNat ∧ byteAt e k / 8 % 8 = reg.toNat ∧ byteAt e k % 8 = rm.toNat := by
  have hb : byteAt e k = (modrm md reg rm).toNat := by
    rw [← Nat.add_zero k, byteAt_drop, h]
    rfl
  rw [hb]
  exact modrm_toNat md reg rm


/-- The displacement behind the ModRM byte. -/
theorem displacement_cons (b : Byte) (e : List Byte) (k n : Nat) : displacement (b :: e) (k + 1) n = displacement e k n := by
  rw [Nat.add_comm k 1]
  exact displacement_drop (b :: e) 1 k n

theorem memoryAt_direct16 (d : Half) (cs : List Byte) :
    memoryAt .s16 (modrm 0 reg 6 :: (Half.bytes d ++ cs)) 0 = .mem none none 1 (d.signExtend 32) .s16 := by
  obtain ⟨hmd, -, hrm⟩ := byteAt_modrm (e := modrm 0 reg 6 :: (Half.bytes d ++ cs)) (k := 0) rfl
  have hdisp := displacement_append (bs := Half.bytes d) (d := d) (half_bytes_leNat d) cs
  simp only [memoryAt, hmd, hrm, displacement_cons]
  exact congrArg (Operand.mem none none 1 · .s16) hdisp

/-- `[BP]` without displacement is not the form that `mod` 00 and `rm` 110 stand for (R109). -/
theorem bp_code {b : Base16} {d : Disp16} (h : (!(b == .bp && d == .d0)) = true) :
    ¬ (d.mode.toNat = 0 ∧ b.bits.toNat = 6) := by
  rintro ⟨hd, hb⟩
  obtain rfl := disp16_mode_eq (BitVec.eq_of_toNat_eq hd)
  obtain rfl : b = .bp := by
    rw [← base16_ofBits_bits b, base16_ofBits_eq_iff]
    exact BitVec.eq_of_toNat_eq hb
  exact absurd h (by decide)

/-- `[EBP]` without displacement is not the form that `mod` 00 and base 101 stand for (R110, R111). -/
theorem ebp_code {b : Gpr} {d : Disp32} (h : (!(b == .ebp && d == .d0)) = true) :
    ¬ (d.mode.toNat = 0 ∧ b.bits.toNat = 5) := by
  rintro ⟨hd, hb⟩
  obtain rfl := disp32_mode_eq (BitVec.eq_of_toNat_eq hd)
  obtain rfl : b = .ebp := by
    rw [← gpr_ofBits_bits b, gpr_ofBits_eq_iff]
    exact BitVec.eq_of_toNat_eq hb
  exact absurd h (by decide)

theorem memoryAt_based16 {b : Base16} {d : Disp16} (h : (!(b == .bp && d == .d0)) = true) (cs : List Byte) :
    memoryAt .s16 (modrm d.mode reg b.bits :: (d.encode ++ cs)) 0 = .mem (some b.regs.1) b.regs.2 1 d.value .s16 := by
  obtain ⟨hmd, -, hrm⟩ := byteAt_modrm (e := modrm d.mode reg b.bits :: (d.encode ++ cs)) (k := 0) rfl
  simp only [memoryAt, hmd, hrm, displacement_cons, if_neg (bp_code h), displacement_disp16]
  cases b <;> rfl

theorem memoryAt_direct32 (d : Word) (cs : List Byte) :
    memoryAt .s32 (modrm 0 reg 5 :: (Word.bytes d ++ cs)) 0 = .mem none none 1 d .s32 := by
  obtain ⟨hmd, -, hrm⟩ := byteAt_modrm (e := modrm 0 reg 5 :: (Word.bytes d ++ cs)) (k := 0) rfl
  simp only [memoryAt, hmd, hrm, displacement_cons]
  exact congrArg (Operand.mem none none 1 · .s32) (displacement_word d cs)

theorem memoryAt_based32 {b : Gpr} {d : Disp32} (hesp : b ≠ .esp) (h : (!(b == .ebp && d == .d0)) = true)
    (cs : List Byte) : memoryAt .s32 (modrm d.mode reg b.bits :: (d.encode ++ cs)) 0 =
      .mem (some (b.id .s32)) none 1 d.value .s32 := by
  obtain ⟨hmd, -, hrm⟩ := byteAt_modrm (e := modrm d.mode reg b.bits :: (d.encode ++ cs)) (k := 0) rfl
  have h4 : b.bits.toNat ≠ 4 := by
    revert hesp
    cases b <;> decide
  simp only [memoryAt, hmd, hrm, displacement_cons, if_pos h4, if_neg (ebp_code h), displacement_disp32]
  rfl

/-- The index of a SIB byte, by its field (R111). -/
theorem sibIndex_eq (ix : Gpr) : (if ix.bits.toNat = 4 then none else some (17 + ix.bits.toNat)) = sibIndex ix := by
  cases ix <;> rfl

theorem scale_factor_eq (sc : Scale) : 2 ^ sc.bits.toNat = sc.factor := by cases sc <;> rfl

theorem memoryAt_sib32 {sc : Scale} {ix b : Gpr} {d : Disp32} (h : (!(b == .ebp && d == .d0)) = true) (cs : List Byte) :
    memoryAt .s32 (modrm d.mode reg 4 :: modrm sc.bits ix.bits b.bits :: (d.encode ++ cs)) 0 =
      .mem (some (b.id .s32)) (sibIndex ix) sc.factor d.value .s32 := by
  obtain ⟨hmd, -, hrm⟩ := byteAt_modrm (k := 0)
    (e := modrm d.mode reg 4 :: modrm sc.bits ix.bits b.bits :: (d.encode ++ cs)) rfl
  obtain ⟨hsc, hix, hb⟩ := byteAt_modrm (k := 0 + 1)
    (e := modrm d.mode reg 4 :: modrm sc.bits ix.bits b.bits :: (d.encode ++ cs)) rfl
  simp only [memoryAt, hmd, hrm, hsc, hix, hb, displacement_cons _ _ 1, displacement_cons _ _ 0, if_neg (ebp_code h),
    displacement_disp32, sibIndex_eq, scale_factor_eq]
  rfl

theorem memoryAt_sibNoBase {sc : Scale} {ix : Gpr} (d : Word) (cs : List Byte) :
    memoryAt .s32 (modrm 0 reg 4 :: modrm sc.bits ix.bits 5 :: (Word.bytes d ++ cs)) 0 =
      .mem none (sibIndex ix) sc.factor d .s32 := by
  obtain ⟨hmd, -, hrm⟩ := byteAt_modrm (k := 0)
    (e := modrm 0 reg 4 :: modrm sc.bits ix.bits 5 :: (Word.bytes d ++ cs)) rfl
  obtain ⟨hsc, hix, hb⟩ := byteAt_modrm (k := 0 + 1)
    (e := modrm 0 reg 4 :: modrm sc.bits ix.bits 5 :: (Word.bytes d ++ cs)) rfl
  simp only [memoryAt, hmd, hrm, hsc, hix, hb, displacement_cons _ _ 1, displacement_cons _ _ 0, displacement_word,
    sibIndex_eq, scale_factor_eq]
  rfl

/-- The memory operand read where a form is encoded is the form's (R109 to R112). -/
theorem memoryAt_encode {f : MemForm} (h : f.ok z = true) (cs : List Byte) :
    memoryAt z (f.encode reg ++ cs) 0 = f.operand := by
  simp only [MemForm.ok, Bool.and_eq_true, beq_iff_eq] at h
  obtain ⟨rfl, hf⟩ := h
  cases f with
  | direct16 d => exact memoryAt_direct16 d cs
  | based16 b d => exact memoryAt_based16 hf cs
  | direct32 d => exact memoryAt_direct32 d cs
  | based32 b d =>
    obtain ⟨hesp, hebp⟩ := Bool.and_eq_true_iff.1 hf
    exact memoryAt_based32 (bne_iff_ne.1 hesp) hebp cs
  | sib32 sc ix b d => exact memoryAt_sib32 hf cs
  | sibNoBase sc ix d => exact memoryAt_sibNoBase d cs

end

/-! What each source of a row reads (R107 to R115). The ModRM byte stands at k, or the opcode byte just before k. -/

section
variable {z o : Size} {e cs : List Byte} {k : Nat} {md : BitVec 2} {reg x : BitVec 3}

/-- Where a memory form is encoded, `mod` is not 11, and the memory operand is the form's. -/
theorem memory_source {f : MemForm} (h : f.ok z = true) (he : e.drop k = f.encode reg ++ cs) (r : Operand) :
    (if byteAt e k / 64 = 3 then r else memoryAt z e k) = f.operand := by
  obtain ⟨md, x, tail, hf, hmd, -⟩ := readMem_encode h reg cs
  obtain ⟨hmode, -, -⟩ := byteAt_modrm (he.trans hf)
  have hne : byteAt e k / 64 ≠ 3 := fun h3 => hmd (BitVec.eq_of_toNat_eq (hmode.symm.trans h3))
  rw [if_neg hne, memoryAt_drop, he, memoryAt_encode h]

theorem rm8_source {rm : Rm8} (h : rm.ok z = true) (he : e.drop k = rm.encode reg ++ cs) :
    rm.operand = Source.rm8.operand z o k e := by
  cases rm with
  | reg r =>
    obtain ⟨hmd, -, hrm⟩ := byteAt_modrm he
    simp only [Source.operand, hmd, hrm]
    rfl
  | mem f => exact (memory_source h he _).symm

theorem rmv_source {rm : Rmv} (h : rm.ok z = true) (he : e.drop k = rm.encode reg ++ cs) :
    rm.operand o = Source.rmv.operand z o k e := by
  cases rm with
  | reg r =>
    obtain ⟨hmd, -, hrm⟩ := byteAt_modrm he
    simp only [Source.operand, hmd, hrm]
    cases o <;> rfl
  | mem f => exact (memory_source h he _).symm

theorem rm16_source {rm : Rmv} (h : rm.ok z = true) (he : e.drop k = rm.encode reg ++ cs) :
    rm.operand .s16 = Source.rm16.operand z o k e := by
  cases rm with
  | reg r =>
    obtain ⟨hmd, -, hrm⟩ := byteAt_modrm he
    simp only [Source.operand, hmd, hrm]
    rfl
  | mem f => exact (memory_source h he _).symm

theorem mem_source {f : MemForm} (h : f.ok z = true) (he : e.drop k = f.encode reg ++ cs) :
    f.operand = Source.rmv.operand z o k e := (memory_source h he _).symm

/-- The `reg` field of an encoded r/m operand. -/
theorem rm8_field {rm : Rm8} (he : e.drop k = rm.encode reg ++ cs) : byteAt e k / 8 % 8 = reg.toNat := by
  obtain ⟨md, x, tail, hrm⟩ := Laws.Rm8.encode_head rm reg
  obtain ⟨-, hreg, -⟩ := byteAt_modrm (he.trans (congrArg (· ++ cs) hrm))
  exact hreg

theorem rmv_field {rm : Rmv} (he : e.drop k = rm.encode reg ++ cs) : byteAt e k / 8 % 8 = reg.toNat := by
  obtain ⟨md, x, tail, hrm⟩ := Laws.Rmv.encode_head rm reg
  obtain ⟨-, hreg, -⟩ := byteAt_modrm (he.trans (congrArg (· ++ cs) hrm))
  exact hreg

theorem mem_field {f : MemForm} (he : e.drop k = f.encode reg ++ cs) : byteAt e k / 8 % 8 = reg.toNat := by
  obtain ⟨md, x, tail, hf⟩ := Laws.MemForm.encode_head f reg
  obtain ⟨-, hreg, -⟩ := byteAt_modrm (he.trans (congrArg (· ++ cs) hf))
  exact hreg

theorem reg8_source {r : Reg8} (h : byteAt e k / 8 % 8 = r.bits.toNat) : r.operand = Source.reg8.operand z o k e := by
  simp only [Source.operand, h]
  rfl

theorem regv_source {r : Gpr} (h : byteAt e k / 8 % 8 = r.bits.toNat) : r.operand o = Source.regv.operand z o k e := by
  simp only [Source.operand, h]
  cases o <;> rfl

theorem sreg_source {r : Sreg} (h : byteAt e k / 8 % 8 = r.bits.toNat) : r.operand = Source.sreg.operand z o k e := by
  simp only [Source.operand, h]
  rfl

theorem cr_source {c : Cr} {r : Gpr} (he : e.drop k = [modrm md c.bits r.bits]) :
    c.operand = Source.cr.operand z o k e ∧ r.operand .s32 = Source.rm32.operand z o k e := by
  obtain ⟨-, hreg, hrm⟩ := byteAt_modrm he
  simp only [Source.operand, hreg, hrm]
  exact ⟨rfl, rfl⟩

theorem dr_source {n : Fin 8} {r : Gpr} (he : e.drop k = [modrm md (regBits n) r.bits]) :
    drOperand n = Source.dr.operand z o k e ∧ r.operand .s32 = Source.rm32.operand z o k e := by
  obtain ⟨-, hreg, hrm⟩ := byteAt_modrm he
  simp only [Source.operand, hreg, hrm]
  exact ⟨rfl, rfl⟩

theorem tr_source {n : Fin 8} {r : Gpr} (he : e.drop k = [modrm md (regBits n) r.bits]) :
    trOperand n = Source.tr.operand z o k e ∧ r.operand .s32 = Source.rm32.operand z o k e := by
  obtain ⟨-, hreg, hrm⟩ := byteAt_modrm he
  simp only [Source.operand, hreg, hrm]
  exact ⟨rfl, rfl⟩

theorem al_source : Reg8.al.operand = Source.al.operand z o k e := rfl

theorem cl_source : Reg8.cl.operand = Source.cl.operand z o k e := rfl

/-- The count of the shifts by one stands in no byte (R118). -/
theorem one_source : imm8Operand 1#8 = Source.one.operand z o k e := rfl

theorem acc_source : Gpr.eax.operand o = Source.acc.operand z o k e := by cases o <;> rfl

/-- A `+r` opcode byte in numbers: the row's byte and the register (R115). -/
theorem plusR_toNat {b : Byte} {r : BitVec 3} : b.toNat % 8 = 0 →
    (plusR b r).toNat / 8 * 8 = b.toNat ∧ (plusR b r).toNat % 8 = r.toNat := by
  revert b r
  unfold plusR
  decide

theorem low8_source {b : Byte} {r : Reg8} (hb : b.toNat % 8 = 0) (bs : List Byte) :
    r.operand = Source.low8.operand z o 1 (plusR b r.bits :: bs) :=
  congrArg (fun n => Operand.reg (1 + n)) (plusR_toNat hb).2.symm

theorem lowv_source {b : Byte} {r : Gpr} (hb : b.toNat % 8 = 0) (bs : List Byte) :
    r.operand o = Source.lowv.operand z o 1 (plusR b r.bits :: bs) := by
  have hlow : r.bits.toNat = byteAt (plusR b r.bits :: bs) (1 - 1) % 8 := (plusR_toNat hb).2.symm
  simp only [Source.operand, ← hlow]
  cases o <;> rfl

/-! Immediates and offsets, in the last bytes (R102, R113, R114). -/

theorem ib_source (bs : List Byte) (v : Byte) : imm8Operand v = Source.ib.operand z o k (bs ++ [v]) := by
  have hlast : numberFrom (bs ++ [v]) ((bs ++ [v]).length - 1) 1 = v.toNat := numberFrom_last bs [v]
  simp only [Source.operand, hlast, BitVec.ofNat_toNat]
  rfl

theorem last_half (bs : List Byte) (v : Half) :
    numberFrom (bs ++ Half.bytes v) ((bs ++ Half.bytes v).length - 2) 2 = v.toNat :=
  (numberFrom_last bs (Half.bytes v)).trans (half_bytes_leNat v)

theorem last_word (bs : List Byte) (v : Word) :
    numberFrom (bs ++ Word.bytes v) ((bs ++ Word.bytes v).length - 4) 4 = v.toNat :=
  (numberFrom_last bs (Word.bytes v)).trans (word_bytes_leNat v)

theorem iz_source {v : Iz} (h : v.ok o = true) (bs : List Byte) :
    v.operand = Source.iz.operand z o k (bs ++ v.encode) := by
  cases v with
  | i16 v =>
    cases o with
    | s16 => simp only [Source.operand, Iz.encode, Iz.operand, last_half, BitVec.ofNat_toNat]
    | s32 => cases h
  | i32 v =>
    cases o with
    | s16 => cases h
    | s32 => simp only [Source.operand, Iz.encode, Iz.operand, last_word, BitVec.ofNat_toNat, BitVec.setWidth_eq]

theorem moffs_source {a : Moffs} (h : a.ok z = true) (bs : List Byte) :
    a.operand = Source.moffs.operand z o k (bs ++ a.encode) := by
  cases a with
  | o16 v =>
    cases z with
    | s16 => simp only [Source.operand, Moffs.encode, Moffs.operand, last_half, BitVec.ofNat_toNat]
    | s32 => cases h
  | o32 v =>
    cases z with
    | s16 => cases h
    | s32 => simp only [Source.operand, Moffs.encode, Moffs.operand, last_word, BitVec.ofNat_toNat, BitVec.setWidth_eq]

end

/-! Rows. -/

/-- The bytes e match a row of the opcode map, and the record is the one the row makes of them. -/
def HasRow (z o : Size) (e : List Byte) (r : Record) : Prop :=
  ∃ x ∈ opcodeMap, x.fits e ∧ r.op = x.op ∧ r.osz = x.size.width o ∧
    r.opnd = x.operands.map fun y => y.operand z o x.opcode.length e

section
variable {m : CodeMode} {p : Prefixes} {op : OpClass} {opnd : List Operand} {os : List Source} {n d : Nat} {b : Byte}
  {bs : List Byte}

/-- An r/m operand that ends its encoding has no bytes behind it. -/
theorem eq_append_nil {es : List Byte} : es = es ++ [] := (List.append_nil es).symm

theorem map_one {f : Source → Operand} {a : Operand} {s : Source} (ha : a = f s) : [a] = [s].map f := by
  rw [ha]
  rfl

theorem map_pair {f : Source → Operand} {a c : Operand} {s t : Source} (ha : a = f s) (hc : c = f t) :
    [a, c] = [s, t].map f := by
  rw [ha, hc]
  rfl

/-- A row without a register field in its opcode matches its opcode bytes and its digit (R125). -/
theorem fits_of_bytes {x : MapRow} {e : List Byte} (hplus : x.plus = false)
    (hop : ∀ k, k < x.opcode.length → byteAt e k = x.opcode.getD k 0)
    (hd : ∀ d, x.digit = some d → byteAt e x.opcode.length / 8 % 8 = d) : x.fits e := by
  refine ⟨fun k hk => ?_, hd⟩
  rw [hplus, hop k hk]
  simp

theorem byteAt_opcode (b : Byte) (bs : List Byte) (k : Nat) (hk : k < 1) :
    byteAt (b :: bs) k = [b.toNat].getD k 0 := by
  obtain rfl := Nat.lt_one_iff.1 hk
  rfl

theorem byteAt_escape (b : Byte) (bs : List Byte) (k : Nat) (hk : k < 2) :
    byteAt (0x0F#8 :: b :: bs) k = [0x0F, b.toNat].getD k 0 := by
  interval_cases k <;> rfl

theorem hasRow_opcode (size : RowSize) (hopnd : opnd = os.map fun y => y.operand (p.asz m) (p.osz m) 1 (b :: bs))
    (hx : row [b.toNat] op size os ∈ opcodeMap) :
    HasRow (p.asz m) (p.osz m) (b :: bs) (p.record m (size.width (p.osz m)) op opnd n) :=
  ⟨_, hx, fits_of_bytes rfl (byteAt_opcode b bs) nofun, rfl, rfl, hopnd⟩

theorem hasRow_digit (size : RowSize) (hopnd : opnd = os.map fun y => y.operand (p.asz m) (p.osz m) 1 (b :: bs))
    (hd : byteAt (b :: bs) 1 / 8 % 8 = d) (hx : rowDigit [b.toNat] d op size os ∈ opcodeMap) :
    HasRow (p.asz m) (p.osz m) (b :: bs) (p.record m (size.width (p.osz m)) op opnd n) :=
  ⟨_, hx, fits_of_bytes rfl (byteAt_opcode b bs) fun _ hd' => hd.trans (Option.some.inj hd'), rfl, rfl, hopnd⟩

theorem hasRow_plus (size : RowSize) {r : BitVec 3} (hb : b.toNat % 8 = 0)
    (hopnd : opnd = os.map fun y => y.operand (p.asz m) (p.osz m) 1 (plusR b r :: bs))
    (hx : rowPlus b.toNat op size os ∈ opcodeMap) :
    HasRow (p.asz m) (p.osz m) (plusR b r :: bs) (p.record m (size.width (p.osz m)) op opnd n) := by
  refine ⟨_, hx, ⟨fun k hk => ?_, nofun⟩, rfl, rfl, hopnd⟩
  obtain rfl : k = 0 := Nat.lt_one_iff.1 hk
  exact (plusR_toNat hb).1

theorem hasRow_escape (size : RowSize)
    (hopnd : opnd = os.map fun y => y.operand (p.asz m) (p.osz m) 2 (0x0F#8 :: b :: bs))
    (hx : row [0x0F, b.toNat] op size os ∈ opcodeMap) :
    HasRow (p.asz m) (p.osz m) (0x0F#8 :: b :: bs) (p.record m (size.width (p.osz m)) op opnd n) :=
  ⟨_, hx, fits_of_bytes rfl (byteAt_escape b bs) nofun, rfl, rfl, hopnd⟩

theorem hasRow_escapeDigit (size : RowSize)
    (hopnd : opnd = os.map fun y => y.operand (p.asz m) (p.osz m) 2 (0x0F#8 :: b :: bs))
    (hd : byteAt (0x0F#8 :: b :: bs) 2 / 8 % 8 = d) (hx : rowDigit [0x0F, b.toNat] d op size os ∈ opcodeMap) :
    HasRow (p.asz m) (p.osz m) (0x0F#8 :: b :: bs) (p.record m (size.width (p.osz m)) op opnd n) :=
  ⟨_, hx, fits_of_bytes rfl (byteAt_escape b bs) fun _ hd' => hd.trans (Option.some.inj hd'), rfl, rfl, hopnd⟩

end

/-- Every instruction that has an encoding behind the prefixes p matches a row of the opcode map there, and its record is
the row's: class, width and operands (R105, R117, R118). -/
theorem hasRow_record (m : CodeMode) (p : Prefixes) {i : Instr} (hi : i.isPlain = true)
    (h : Instr.formsOk m p i = true) : HasRow (p.asz m) (p.osz m) i.encode (Instr.record m p i) := by
  cases i with
  | segEs i | segCs i | segSs i | segDs i | segFs i | segGs i | opsize i | adsize i | lock i | repne i | rep i =>
    cases hi
  | movRm8R8 rm r | addRm8R8 rm r | orRm8R8 rm r | adcRm8R8 rm r | sbbRm8R8 rm r | andRm8R8 rm r
  | subRm8R8 rm r | xorRm8R8 rm r =>
    exact hasRow_opcode .byte (map_pair (rm8_source h eq_append_nil) (reg8_source (rm8_field eq_append_nil))) (by decide)
  | movRmvRv rm r | addRmvRv rm r | orRmvRv rm r | adcRmvRv rm r | sbbRmvRv rm r | andRmvRv rm r
  | subRmvRv rm r | xorRmvRv rm r =>
    exact hasRow_opcode .full (map_pair (rmv_source h eq_append_nil) (regv_source (rmv_field eq_append_nil))) (by decide)
  | movR8Rm8 r rm | addR8Rm8 r rm | orR8Rm8 r rm | adcR8Rm8 r rm | sbbR8Rm8 r rm | andR8Rm8 r rm
  | subR8Rm8 r rm | xorR8Rm8 r rm =>
    exact hasRow_opcode .byte (map_pair (reg8_source (rm8_field eq_append_nil)) (rm8_source h eq_append_nil)) (by decide)
  | movRvRmv r rm | addRvRmv r rm | orRvRmv r rm | adcRvRmv r rm | sbbRvRmv r rm | andRvRmv r rm
  | subRvRmv r rm | xorRvRmv r rm =>
    exact hasRow_opcode .full (map_pair (regv_source (rmv_field eq_append_nil)) (rmv_source h eq_append_nil)) (by decide)
  | addAlImm8 v | orAlImm8 v | adcAlImm8 v | sbbAlImm8 v | andAlImm8 v | subAlImm8 v | xorAlImm8 v =>
    exact hasRow_opcode .byte (map_pair al_source (ib_source [_] v)) (by decide)
  | addEaxImm v | orEaxImm v | adcEaxImm v | sbbEaxImm v | andEaxImm v | subEaxImm v | xorEaxImm v =>
    exact hasRow_opcode .full (map_pair acc_source (iz_source h [_])) (by decide)
  | movRm8Imm8 rm v | addRm8Imm8 rm v | orRm8Imm8 rm v | adcRm8Imm8 rm v | sbbRm8Imm8 rm v | andRm8Imm8 rm v
  | subRm8Imm8 rm v | xorRm8Imm8 rm v | addRm8Imm8Alias rm v | orRm8Imm8Alias rm v | adcRm8Imm8Alias rm v
  | sbbRm8Imm8Alias rm v | andRm8Imm8Alias rm v | subRm8Imm8Alias rm v | xorRm8Imm8Alias rm v | shlRm8Imm8 rm v
  | shrRm8Imm8 rm v =>
    exact hasRow_digit .byte (map_pair (rm8_source h rfl) (ib_source (_ :: rm.encode _) v)) (rm8_field rfl) (by decide)
  | addRmvImm8 rm v | orRmvImm8 rm v | adcRmvImm8 rm v | sbbRmvImm8 rm v | andRmvImm8 rm v | subRmvImm8 rm v
  | xorRmvImm8 rm v | shlRmvImm8 rm v | shrRmvImm8 rm v =>
    exact hasRow_digit .full (map_pair (rmv_source h rfl) (ib_source (_ :: rm.encode _) v)) (rmv_field rfl) (by decide)
  | movRmvImm rm v | addRmvImm rm v | orRmvImm rm v | adcRmvImm rm v | sbbRmvImm rm v | andRmvImm rm v
  | subRmvImm rm v | xorRmvImm rm v =>
    obtain ⟨hrm, hv⟩ := Bool.and_eq_true_iff.1 h
    exact hasRow_digit .full (map_pair (rmv_source hrm rfl) (iz_source hv (_ :: rm.encode _))) (rmv_field rfl) (by decide)
  | movRm16Sreg rm x =>
    exact hasRow_opcode .full (map_pair (rmv_source h eq_append_nil) (sreg_source (rmv_field eq_append_nil))) (by decide)
  | movSregRm16 x rm =>
    obtain ⟨hrm, -⟩ := Bool.and_eq_true_iff.1 h
    exact hasRow_opcode .full (map_pair (sreg_source (rmv_field eq_append_nil)) (rm16_source hrm eq_append_nil)) (by decide)
  | movAlMoffs a =>
    exact hasRow_opcode .byte (map_pair al_source (moffs_source h [_])) (by decide)
  | movEaxMoffs a =>
    exact hasRow_opcode .full (map_pair acc_source (moffs_source h [_])) (by decide)
  | movMoffsAl a =>
    exact hasRow_opcode .byte (map_pair (moffs_source h [_]) al_source) (by decide)
  | movMoffsEax a =>
    exact hasRow_opcode .full (map_pair (moffs_source h [_]) acc_source) (by decide)
  | movR8Imm8 r v =>
    exact hasRow_plus .byte rfl (map_pair (low8_source rfl _) (ib_source [_] v)) (by decide)
  | movRvImm r v =>
    exact hasRow_plus .full rfl (map_pair (lowv_source rfl _) (iz_source h [_])) (by decide)
  | incRv r | decRv r | pushRv r | popRv r =>
    exact hasRow_plus .full rfl (map_one (lowv_source rfl _)) (by decide)
  | incRm8 rm | decRm8 rm =>
    exact hasRow_digit .byte (map_one (rm8_source h eq_append_nil)) (rm8_field eq_append_nil) (by decide)
  | incRmv rm | decRmv rm | pushRmv rm | popRmv rm =>
    exact hasRow_digit .full (map_one (rmv_source h eq_append_nil)) (rmv_field eq_append_nil) (by decide)
  | shlRm8One rm | shrRm8One rm =>
    exact hasRow_digit .byte (map_pair (rm8_source h eq_append_nil) one_source) (rm8_field eq_append_nil) (by decide)
  | shlRm8Cl rm | shrRm8Cl rm =>
    exact hasRow_digit .byte (map_pair (rm8_source h eq_append_nil) cl_source) (rm8_field eq_append_nil) (by decide)
  | shlRmvOne rm | shrRmvOne rm =>
    exact hasRow_digit .full (map_pair (rmv_source h eq_append_nil) one_source) (rmv_field eq_append_nil) (by decide)
  | shlRmvCl rm | shrRmvCl rm =>
    exact hasRow_digit .full (map_pair (rmv_source h eq_append_nil) cl_source) (rmv_field eq_append_nil) (by decide)
  | movR32Cr x r c =>
    exact hasRow_escape .dword (map_pair (cr_source rfl).2 (cr_source rfl).1) (by decide)
  | movCrR32 x c r =>
    exact hasRow_escape .dword (map_pair (cr_source rfl).1 (cr_source rfl).2) (by decide)
  | movR32Dr x r n =>
    exact hasRow_escape .dword (map_pair (dr_source rfl).2 (dr_source rfl).1) (by decide)
  | movDrR32 x n r =>
    exact hasRow_escape .dword (map_pair (dr_source rfl).1 (dr_source rfl).2) (by decide)
  | movR32Tr x r n =>
    exact hasRow_escape .dword (map_pair (tr_source rfl).2 (tr_source rfl).1) (by decide)
  | movTrR32 x n r =>
    exact hasRow_escape .dword (map_pair (tr_source rfl).1 (tr_source rfl).2) (by decide)
  | pushImm v =>
    exact hasRow_opcode .full (map_one (iz_source h [_])) (by decide)
  | pushImm8 v =>
    exact hasRow_opcode .full (map_one (ib_source [_] v)) (by decide)
  | pushEs =>
    exact hasRow_opcode .full (os := [.fixed 0]) rfl (by decide)
  | pushCs =>
    exact hasRow_opcode .full (os := [.fixed 1]) rfl (by decide)
  | pushSs =>
    exact hasRow_opcode .full (os := [.fixed 2]) rfl (by decide)
  | pushDs =>
    exact hasRow_opcode .full (os := [.fixed 3]) rfl (by decide)
  | popEs =>
    exact hasRow_opcode .full (os := [.fixed 0]) rfl (by decide)
  | popSs =>
    exact hasRow_opcode .full (os := [.fixed 2]) rfl (by decide)
  | popDs =>
    exact hasRow_opcode .full (os := [.fixed 3]) rfl (by decide)
  | pushFs =>
    exact hasRow_escape .full (os := [.fixed 4]) rfl (by decide)
  | pushGs =>
    exact hasRow_escape .full (os := [.fixed 5]) rfl (by decide)
  | popFs =>
    exact hasRow_escape .full (os := [.fixed 4]) rfl (by decide)
  | popGs =>
    exact hasRow_escape .full (os := [.fixed 5]) rfl (by decide)
  | lgdt f | lidt f =>
    exact hasRow_escapeDigit .full (map_one (mem_source h eq_append_nil)) (mem_field eq_append_nil) (by decide)

/-! Prefixes before an instruction (R103, R104). -/

/-- What the prefixes `ps` make of `p`, the first of them seen first. -/
def Prefixes.after (p : Prefixes) (ps : List Pfx) : Prefixes := ps.foldl (fun q x => x.apply q) p

theorem record_withPrefixes (m : CodeMode) (p : Prefixes) (ps : List Pfx) (i : Instr) :
    Instr.record m p (withPrefixes ps i) = Instr.record m (p.after ps) i := by
  induction ps generalizing p with
  | nil => rfl
  | cons x ps ih => exact (record_wrap m p x _).trans (ih _)

theorem formsOk_withPrefixes (m : CodeMode) (p : Prefixes) (ps : List Pfx) (i : Instr) :
    Instr.formsOk m p (withPrefixes ps i) = Instr.formsOk m (p.after ps) i := by
  induction ps generalizing p with
  | nil => rfl
  | cons x ps ih => exact (formsOk_wrap m p x _).trans (ih _)

theorem encode_withPrefixes (ps : List Pfx) (i : Instr) :
    (withPrefixes ps i).encode = ps.map Pfx.byte ++ i.encode := by
  induction ps with
  | nil => rfl
  | cons x ps ih =>
    rw [List.map_cons, List.cons_append, ← ih]
    exact encode_wrap x _

theorem after_concat (p : Prefixes) (ps : List Pfx) (x : Pfx) : p.after (ps ++ [x]) = x.apply (p.after ps) := by
  rw [Prefixes.after, List.foldl_append]
  rfl

/-! What one prefix byte does to each field (R103). -/

theorem apply_seg (x : Pfx) (p : Prefixes) : (x.apply p).seg = x.override.or p.seg := by cases x <;> rfl

theorem apply_rep (x : Pfx) (p : Prefixes) : (x.apply p).rep = x.repeats.getD p.rep := by cases x <;> rfl

theorem apply_lock (x : Pfx) (p : Prefixes) : (x.apply p).lock = true ↔ p.lock = true ∨ Pfx.lock = x := by
  cases x <;> simp [Pfx.apply]

theorem apply_opsize (x : Pfx) (p : Prefixes) : (x.apply p).opsize = true ↔ p.opsize = true ∨ Pfx.opsize = x := by
  cases x <;> simp [Pfx.apply]

theorem apply_adsize (x : Pfx) (p : Prefixes) : (x.apply p).adsize = true ↔ p.adsize = true ∨ Pfx.adsize = x := by
  cases x <;> simp [Pfx.apply]

theorem apply_count (x : Pfx) (p : Prefixes) : (x.apply p).count = p.count + 1 := by cases x <;> rfl

/-! What all of them do, from none on: the last override and the last repeat prefix win, the others count once (R104). -/

theorem after_seg (ps : List Pfx) : (Prefixes.after {} ps).seg = (ps.filterMap Pfx.override).getLast? := by
  induction ps using List.reverseRecOn with
  | nil => rfl
  | append_singleton ps x ih =>
    rw [after_concat, apply_seg, ih, List.filterMap_append]
    cases h : x.override <;> simp [h]

theorem after_rep (ps : List Pfx) :
    (Prefixes.after {} ps).rep = ((ps.filterMap Pfx.repeats).getLast?).getD .absent := by
  induction ps using List.reverseRecOn with
  | nil => rfl
  | append_singleton ps x ih =>
    rw [after_concat, apply_rep, ih, List.filterMap_append]
    cases h : x.repeats <;> simp [h]

theorem after_lock (ps : List Pfx) : (Prefixes.after {} ps).lock = true ↔ Pfx.lock ∈ ps := by
  induction ps using List.reverseRecOn with
  | nil => simp [Prefixes.after]
  | append_singleton ps x ih => rw [after_concat, apply_lock, ih, List.mem_append, List.mem_singleton]

theorem after_opsize (ps : List Pfx) : (Prefixes.after {} ps).opsize = true ↔ Pfx.opsize ∈ ps := by
  induction ps using List.reverseRecOn with
  | nil => simp [Prefixes.after]
  | append_singleton ps x ih => rw [after_concat, apply_opsize, ih, List.mem_append, List.mem_singleton]

theorem after_adsize (ps : List Pfx) : (Prefixes.after {} ps).adsize = true ↔ Pfx.adsize ∈ ps := by
  induction ps using List.reverseRecOn with
  | nil => simp [Prefixes.after]
  | append_singleton ps x ih => rw [after_concat, apply_adsize, ih, List.mem_append, List.mem_singleton]

theorem after_count (ps : List Pfx) : (Prefixes.after {} ps).count = ps.length := by
  induction ps using List.reverseRecOn with
  | nil => rfl
  | append_singleton ps x ih => rw [after_concat, apply_count, ih, List.length_append, List.length_singleton]

theorem after_osz (m : CodeMode) (ps : List Pfx) :
    (Prefixes.after {} ps).osz m = if Pfx.opsize ∈ ps then m.operandSize.flip else m.operandSize := by
  simp only [Prefixes.osz, after_opsize]

theorem after_asz (m : CodeMode) (ps : List Pfx) :
    (Prefixes.after {} ps).asz m = if Pfx.adsize ∈ ps then m.addressSize.flip else m.addressSize := by
  simp only [Prefixes.asz, after_adsize]

/-! What of a record the prefixes before an unprefixed instruction decide. -/

/-- The prefixes are in the record as they are; the opcode class and the number of operands do not depend on them. -/
theorem record_fields {i : Instr} (hi : i.isPlain = true) (m : CodeMode) (p : Prefixes) :
    (Instr.record m p i).seg = p.seg ∧ (Instr.record m p i).rep = p.rep ∧ (Instr.record m p i).lock = p.lock ∧
    (Instr.record m p i).asz = p.asz m ∧ (Instr.record m p i).op = (Instr.record m {} i).op ∧
    (Instr.record m p i).opnd.length = (Instr.record m {} i).opnd.length := by
  cases i with
  | segEs i | segCs i | segSs i | segDs i | segFs i | segGs i | opsize i | adsize i | lock i | repne i | rep i =>
    cases hi
  | _ => exact ⟨rfl, rfl, rfl, rfl, rfl, rfl⟩

/-- A control, debug or test register (R25). -/
def Operand.namesControl : Operand → Bool
  | .reg id => decide ((35 ≤ id ∧ id ≤ 42) ∨ (44 ≤ id ∧ id ≤ 55))
  | .mem _ _ _ _ _ | .imm _ _ | .far _ _ _ | .undefinedKind => false

theorem fixedWidth_iff (r : Record) : r.fixedWidth ↔ r.osz = .w8 ∨ ∃ o ∈ r.opnd, o.namesControl = true := by
  refine or_congr_right ⟨?_, ?_⟩
  · rintro ⟨id, hmem, hid⟩
    exact ⟨_, hmem, decide_eq_true hid⟩
  · rintro ⟨o, hmem, ho⟩
    cases o with
    | reg id => exact ⟨id, hmem, of_decide_eq_true ho⟩
    | _ => cases ho

@[simp] theorem reg8_not_namesControl (r : Reg8) : r.operand.namesControl = false := by cases r <;> rfl

@[simp] theorem gpr_not_namesControl (r : Gpr) (z : Size) : (r.operand z).namesControl = false := by
  cases z <;> cases r <;> rfl

@[simp] theorem sreg_not_namesControl (r : Sreg) : r.operand.namesControl = false := by cases r <;> rfl

@[simp] theorem imm8_not_namesControl (v : Byte) : (imm8Operand v).namesControl = false := rfl

@[simp] theorem iz_not_namesControl (v : Iz) : v.operand.namesControl = false := by cases v <;> rfl

@[simp] theorem moffs_not_namesControl (a : Moffs) : a.operand.namesControl = false := by cases a <;> rfl

@[simp] theorem mem_not_namesControl (f : MemForm) : f.operand.namesControl = false := by cases f <;> rfl

@[simp] theorem rmv_not_namesControl (rm : Rmv) (z : Size) : (rm.operand z).namesControl = false := by
  cases rm with
  | reg r => exact gpr_not_namesControl r z
  | mem f => exact mem_not_namesControl f

theorem cr_namesControl (c : Cr) : c.operand.namesControl = true := by cases c <;> rfl

theorem dr_namesControl (n : Fin 8) : (drOperand n).namesControl = true := by
  revert n
  decide

theorem tr_namesControl (n : Fin 8) : (trOperand n).namesControl = true := by
  revert n
  decide

/-- The width of an unprefixed instruction's record: 8 in a byte form, 32 with a control, debug or test register, and
otherwise the operand size (R105). -/
theorem record_osz {i : Instr} (hi : i.isPlain = true) (m : CodeMode) :
    (∀ p, (Instr.record m p i).osz = .w8) ∨
    ((∀ p, (Instr.record m p i).osz = .w32) ∧ ∃ o ∈ (Instr.record m {} i).opnd, o.namesControl = true) ∨
    ((∀ p, (Instr.record m p i).osz = (p.osz m).width) ∧
      ∀ o ∈ (Instr.record m {} i).opnd, o.namesControl = false) := by
  cases i with
  | segEs i | segCs i | segSs i | segDs i | segFs i | segGs i | opsize i | adsize i | lock i | repne i | rep i =>
    cases hi
  | movRm8R8 rm r | addRm8R8 rm r | orRm8R8 rm r | adcRm8R8 rm r | sbbRm8R8 rm r | andRm8R8 rm r
  | subRm8R8 rm r | xorRm8R8 rm r | movR8Rm8 r rm | addR8Rm8 r rm | orR8Rm8 r rm | adcR8Rm8 r rm
  | sbbR8Rm8 r rm | andR8Rm8 r rm | subR8Rm8 r rm | xorR8Rm8 r rm | addAlImm8 v | orAlImm8 v | adcAlImm8 v
  | sbbAlImm8 v | andAlImm8 v | subAlImm8 v | xorAlImm8 v | movRm8Imm8 rm v | addRm8Imm8 rm v | orRm8Imm8 rm v
  | adcRm8Imm8 rm v | sbbRm8Imm8 rm v | andRm8Imm8 rm v | subRm8Imm8 rm v | xorRm8Imm8 rm v
  | addRm8Imm8Alias rm v | orRm8Imm8Alias rm v | adcRm8Imm8Alias rm v | sbbRm8Imm8Alias rm v
  | andRm8Imm8Alias rm v | subRm8Imm8Alias rm v | xorRm8Imm8Alias rm v | movAlMoffs a | movMoffsAl a
  | movR8Imm8 r v | incRm8 rm | decRm8 rm | shlRm8Imm8 rm v | shlRm8One rm | shlRm8Cl rm | shrRm8Imm8 rm v
  | shrRm8One rm | shrRm8Cl rm =>
    exact .inl fun _ => rfl
  | movR32Cr x r c => exact .inr (.inl ⟨fun _ => rfl, _, .tail _ (.head _), cr_namesControl c⟩)
  | movCrR32 x c r => exact .inr (.inl ⟨fun _ => rfl, _, .head _, cr_namesControl c⟩)
  | movR32Dr x r n => exact .inr (.inl ⟨fun _ => rfl, _, .tail _ (.head _), dr_namesControl n⟩)
  | movDrR32 x n r => exact .inr (.inl ⟨fun _ => rfl, _, .head _, dr_namesControl n⟩)
  | movR32Tr x r n => exact .inr (.inl ⟨fun _ => rfl, _, .tail _ (.head _), tr_namesControl n⟩)
  | movTrR32 x n r => exact .inr (.inl ⟨fun _ => rfl, _, .head _, tr_namesControl n⟩)
  | incRv r | incRmv rm | decRv r | decRmv rm | pushRv r | pushRmv rm | pushImm v | pushImm8 v | pushEs
  | pushCs | pushSs | pushDs | pushFs | pushGs | popRv r | popRmv rm | popEs | popSs | popDs | popFs | popGs
  | lgdt f | lidt f =>
    exact .inr (.inr ⟨fun _ => rfl, List.forall_mem_singleton.2 (by simp)⟩)
  | _ =>
    exact .inr (.inr ⟨fun _ => rfl, List.forall_mem_cons.2 ⟨by simp, List.forall_mem_singleton.2 (by simp)⟩⟩)

/-- Which widths the prefixes do not change, and what the others become (R105). -/
theorem osz_of_fixedWidth {i : Instr} (hi : i.isPlain = true) (m : CodeMode) (p : Prefixes) :
    ((Instr.record m {} i).fixedWidth → (Instr.record m p i).osz = (Instr.record m {} i).osz) ∧
    (¬ (Instr.record m {} i).fixedWidth → (Instr.record m p i).osz = (p.osz m).width) := by
  rw [fixedWidth_iff]
  obtain hbyte | ⟨hdword, hcontrol⟩ | ⟨hfull, hnone⟩ := record_osz hi m
  · exact ⟨fun _ => (hbyte p).trans (hbyte {}).symm, fun hnot => absurd (.inl (hbyte {})) hnot⟩
  · exact ⟨fun _ => (hdword p).trans (hdword {}).symm, fun hnot => absurd (.inr hcontrol) hnot⟩
  · refine ⟨?_, fun _ => hfull p⟩
    rintro (hbyte | ⟨o, ho, hcontrol⟩)
    · exact absurd ((hfull {}).symm.trans hbyte) (width_ne _)
    · rw [hnone o ho] at hcontrol
      cases hcontrol

/-- Settles O6: the record behind prefixes is the record after what they say; and a well-formed instruction matches a row
of the opcode map, which reads that record from its bytes. -/
theorem prefixesOnTheRecord : Obligations.PrefixesOnTheRecord := by
  refine ⟨fun m ps i hi => ?_, fun m ps i hi hwf => ⟨encode_withPrefixes ps i, ?_⟩⟩
  · obtain ⟨hseg, hrep, hlock, hasz, hop, hlen⟩ := record_fields hi m (Prefixes.after {} ps)
    obtain ⟨hfixed, hfull⟩ := osz_of_fixedWidth hi m (Prefixes.after {} ps)
    intro b r
    have hr : r = Instr.record m (Prefixes.after {} ps) i := record_withPrefixes m {} ps i
    rw [hr, hseg, hrep, hlock, hasz, after_seg, after_rep, after_lock, after_asz, Machine.record_len, after_count]
    have hblen : b.len = i.length := (Machine.record_len m i {}).trans (Nat.zero_add _)
    rw [hblen, ← after_osz]
    exact ⟨hop, hlen, rfl, rfl, rfl, .rfl, rfl, hfixed, hfull⟩
  · have hforms : Instr.formsOk m (Prefixes.after {} ps) i = true := by
      rw [← formsOk_withPrefixes]
      exact formsOk_of_wf hwf
    intro r o z
    have hr : r = Instr.record m (Prefixes.after {} ps) i := record_withPrefixes m {} ps i
    have hrow := hasRow_record m (Prefixes.after {} ps) hi hforms
    rw [after_asz, after_osz, ← hr] at hrow
    exact hrow

end Sys2Proof
end

section
/-! The segmentation resolver: descriptors read from memory, the loads in either mode, and the descriptor-table loads
(41_segmentation.md R140 to R151). -/

namespace Sys2Proof.Machine

/-! Bytes of memory and the numbers they stand for (20_memory.md R72, R74). -/

theorem readFrom_eq_map (m : Memory) (la : Word) (n : Nat) :
    m.readFrom la n = (List.range n).map fun k => m.read (la + BitVec.ofNat 32 k) := by
  apply List.ext_getElem?
  intro k
  by_cases hk : k < n
  · rw [readFrom_getElem? m la hk, List.getElem?_map, List.getElem?_range hk]
    rfl
  · rw [List.getElem?_eq_none (by simpa using hk), List.getElem?_eq_none (by simpa using hk)]

/-- The number of the bytes f 0, f 1, ... as a sum. -/
theorem leNat_map_range (f : Nat → Byte) (n : Nat) :
    leNat ((List.range n).map f) = ((List.range n).map fun k => (f k).toNat * 256 ^ k).sum := by
  induction n with
  | zero => rfl
  | succ n ih => simp [List.range_succ, leNat_append, ih, Nat.mul_comm]

theorem leNat_readFrom (m : Memory) (la : Word) (n : Nat) : leNat (m.readFrom la n) = m.numberAt la n := by
  rw [readFrom_eq_map, leNat_map_range]
  rfl

theorem numberAt_lt (m : Memory) (la : Word) (n : Nat) : m.numberAt la n < 256 ^ n := by
  have h := leNat_lt (m.readFrom la n)
  rwa [leNat_readFrom, readFrom_length] at h

/-- A number in n + k bytes is the one in the first n and, above it, the one in the k that follow. -/
theorem numberAt_add (m : Memory) (la : Word) (n k : Nat) :
    m.numberAt la (n + k) = m.numberAt la n + 256 ^ n * m.numberAt (la + BitVec.ofNat 32 n) k := by
  rw [← leNat_readFrom, readFrom_add, leNat_append, readFrom_length, leNat_readFrom, leNat_readFrom]

/-! The fields of a descriptor (R144). -/

theorem toNat_append_eq {n k : Nat} (x : BitVec n) (y : BitVec k) : (x ++ y).toNat = x.toNat * 2 ^ k + y.toNat := by
  rw [BitVec.toNat_append, ← Nat.shiftLeft_add_eq_or_of_lt y.isLt, Nat.shiftLeft_eq]

theorem toNat_extractLsb'_eq {n : Nat} (x : BitVec n) (i k : Nat) :
    (x.extractLsb' i k).toNat = x.toNat / 2 ^ i % 2 ^ k := by
  rw [BitVec.extractLsb'_toNat, Nat.shiftRight_eq_div_pow]

/-- The descriptor of the bytes d 0 to d 7, byte 0 in its low bits. -/
def descriptorOf (d : Nat → Byte) : BitVec 64 := valueOf 64 ((List.range 8).map d)

section
variable (d : Nat → Byte)

theorem descriptorOf_toNat : (descriptorOf d).toNat =
    (d 0).toNat + 2 ^ 8 * (d 1).toNat + 2 ^ 16 * (d 2).toNat + 2 ^ 24 * (d 3).toNat + 2 ^ 32 * (d 4).toNat +
    2 ^ 40 * (d 5).toNat + 2 ^ 48 * (d 6).toNat + 2 ^ 56 * (d 7).toNat := by
  have hlist : (List.range 8).map d = [d 0, d 1, d 2, d 3, d 4, d 5, d 6, d 7] := rfl
  rw [descriptorOf, hlist]
  refine (valueOf_toNat 8 [d 0, d 1, d 2, d 3, d 4, d 5, d 6, d 7] (Nat.le_refl 8)).trans ?_
  simp only [leNat_cons, leNat_nil]
  omega

/-- The bytes of a descriptor, by the runs its fields are made of. -/
theorem descriptorOf_runs :
    ((descriptorOf d).extractLsb' 0 16).toNat = (d 0).toNat + 2 ^ 8 * (d 1).toNat ∧
    ((descriptorOf d).extractLsb' 16 24).toNat = (d 2).toNat + 2 ^ 8 * (d 3).toNat + 2 ^ 16 * (d 4).toNat ∧
    ((descriptorOf d).extractLsb' 48 8).toNat = (d 6).toNat ∧
    ((descriptorOf d).extractLsb' 56 8).toNat = (d 7).toNat := by
  have hlt : ∀ k, (d k).toNat < 2 ^ 8 := fun k => (d k).isLt
  have h0 := hlt 0; have h1 := hlt 1; have h2 := hlt 2; have h3 := hlt 3
  have h4 := hlt 4; have h5 := hlt 5; have h6 := hlt 6; have h7 := hlt 7
  simp only [toNat_extractLsb'_eq, descriptorOf_toNat]
  refine ⟨?_, ?_, ?_, ?_⟩ <;> omega

theorem descBase_toNat : (descBase (descriptorOf d)).toNat =
    (d 2).toNat + 2 ^ 8 * (d 3).toNat + 2 ^ 16 * (d 4).toNat + 2 ^ 24 * (d 7).toNat := by
  obtain ⟨-, hlow, -, hhigh⟩ := descriptorOf_runs d
  rw [descBase, toNat_append_eq, hlow, hhigh]
  omega

theorem descLimit20_toNat : (descLimit20 (descriptorOf d)).toNat =
    (d 0).toNat + 2 ^ 8 * (d 1).toNat + 2 ^ 16 * ((d 6).toNat % 16) := by
  obtain ⟨hlow, -, hbyte, -⟩ := descriptorOf_runs d
  rw [toNat_extractLsb'_eq] at hbyte
  rw [descLimit20, toNat_append_eq, hlow, toNat_extractLsb'_eq]
  omega

/-- Bits 48 to 55 of a descriptor are byte 6. -/
theorem descriptorOf_byte6_bit {j : Nat} (hj : j < 8) : (descriptorOf d).getLsbD (48 + j) = (d 6).getLsbD j := by
  obtain ⟨-, -, hbyte, -⟩ := descriptorOf_runs d
  rw [← BitVec.eq_of_toNat_eq hbyte, BitVec.getLsbD_extractLsb', decide_eq_true hj, Bool.true_and]

theorem descSize_eq : descSize (descriptorOf d) = if (d 6).getLsbD 6 then .s32 else .s16 := by
  rw [descSize, descriptorOf_byte6_bit d (j := 6) (by decide)]

/-- With granularity set the limit counts pages of 4096 bytes, and its last byte is the last of a page. -/
theorem descLimit_toNat : (descLimit (descriptorOf d)).toNat =
    let limit20 := (d 0).toNat + 2 ^ 8 * (d 1).toNat + 2 ^ 16 * ((d 6).toNat % 16)
    if (d 6).getLsbD 7 then (limit20 + 1) * 4096 - 1 else limit20 := by
  have hl : (descLimit20 (descriptorOf d)).toNat < 2 ^ 20 := (descLimit20 (descriptorOf d)).isLt
  rw [descLimit, descriptorOf_byte6_bit d (j := 7) (by decide), ← descLimit20_toNat d]
  generalize descLimit20 (descriptorOf d) = l at hl
  split
  · bv_omega
  · bv_omega

/-- The segment register of a descriptor is the one its fields make (R144, R145). -/
theorem protectedSegment_descriptorOf (sel : Half) :
    protectedSegment sel (descriptorOf d) = segmentOf sel.toNat fun k => (d k).toNat := by
  have hbase := BitVec.ofNat_toNat 32 (descBase (descriptorOf d))
  have hlimit := BitVec.ofNat_toNat 32 (descLimit (descriptorOf d))
  rw [descBase_toNat, BitVec.setWidth_eq] at hbase
  rw [descLimit_toNat, BitVec.setWidth_eq] at hlimit
  rw [protectedSegment, descSize_eq, ← hbase, ← hlimit, segmentOf, BitVec.ofNat_toNat, BitVec.setWidth_eq]
  rfl

end

/-- Settles O25: each field is read from the bytes that `descriptorOf` puts together. -/
theorem descriptorDecode : Obligations.DescriptorDecode := by
  intro sel d0 d1 d2 d3 d4 d5 d6 d7
  let d : Nat → Byte := fun k => [d0, d1, d2, d3, d4, d5, d6, d7].getD k 0
  have hd : valueOf 64 [d0, d1, d2, d3, d4, d5, d6, d7] = descriptorOf d := rfl
  rw [hd]
  exact ⟨descBase_toNat d, descLimit_toNat d, descSize_eq d, descSize_eq d⟩

/-! The loads in either mode (R140 to R147). -/

theorem realSegment_eq (sel : Half) : realSegment sel =
    { selector := sel, base := BitVec.ofNat 32 (16 * sel.toNat), limit := 0x0000FFFF#32, addressSize := .s16,
      operandSize := .s16 } := by
  have hbase : sel.setWidth 32 <<< 4 = BitVec.ofNat 32 (16 * sel.toNat) := by
    apply BitVec.eq_of_toNat_eq
    simp [Nat.shiftLeft_eq, Nat.mul_comm]
  rw [realSegment, hbase]

theorem segmentFor_real {s : State} (h : s.pe = false) (sel : Half) :
    s.segmentFor sel.toNat = realSegment sel := by
  have hreal : ¬ s.cr.cr0.getLsbD 0 = true := by simpa [State.pe] using h
  rw [realSegment_eq, State.segmentFor, if_neg hreal, BitVec.ofNat_toNat, BitVec.setWidth_eq]

theorem descriptorAddress_eq (s : State) (sel : Half) :
    s.descriptorAddress sel = s.gdtr.base + BitVec.ofNat 32 (8 * (sel.toNat / 8)) := by
  have hsel : sel.toNat < 2 ^ 16 := sel.isLt
  have hindex : 8 * (sel.extractLsb' 3 13).setWidth 32 = BitVec.ofNat 32 (8 * (sel.toNat / 8)) := by
    apply BitVec.eq_of_toNat_eq
    rw [BitVec.toNat_mul, BitVec.toNat_setWidth, toNat_extractLsb'_eq, BitVec.toNat_ofNat,
      show (8 : Word).toNat = 8 from rfl]
    omega
  rw [State.descriptorAddress, hindex]

/-- The eight bytes the resolver reads are those of the descriptor the selector names (R142, R143). -/
theorem valueOf_readFrom_descriptor (s : State) (sel : Half) :
    valueOf 64 (s.mem.readFrom (s.descriptorAddress sel) 8) =
      descriptorOf fun k => s.mem.read (s.gdtr.base + BitVec.ofNat 32 (8 * (sel.toNat / 8) + k)) := by
  simp only [descriptorOf, readFrom_eq_map, descriptorAddress_eq, BitVec.ofNat_add, BitVec.add_assoc]

theorem segmentFor_protected {s : State} (h : s.pe = true) (sel : Half) : s.segmentFor sel.toNat =
    protectedSegment sel (valueOf 64 (s.mem.readFrom (s.descriptorAddress sel) 8)) := by
  rw [valueOf_readFrom_descriptor, protectedSegment_descriptorOf]
  exact if_pos h

/-- A selector that R147 does not refuse resolves to what the rules of the mode say. -/
theorem resolve_eq {s : State} {sel : Half} (h : ¬ (s.pe = true ∧ sel.getLsbD 2 = true)) :
    s.resolve sel = .ok (s.segmentFor sel.toNat) := by
  cases hpe : s.pe with
  | true =>
    have hti : sel.getLsbD 2 = false := by simpa [hpe] using h
    rw [resolve_gdt hpe hti, segmentFor_protected hpe]
  | false => rw [resolve_real hpe, segmentFor_real hpe]

/-- What a load leaves (R140, R146): the register, `holdIRQ`, and nothing else. -/
theorem loadSegment_eq {s : State} (x : Sreg) {sel : Half} (h : ¬ (s.pe = true ∧ sel.getLsbD 2 = true)) :
    s.loadSegment x sel =
      .ok { s with seg := s.seg.set x (s.segmentFor sel.toNat), holdIRQ := s.holdIRQ || x == .ss } := by
  rw [State.loadSegment, resolve_eq h]

/-- The same of a selector that is given as a number. -/
theorem loadSegment_ofNat {s : State} (x : Sreg) {n : Nat} (hn : n < 2 ^ 16)
    (h : ¬ (s.pe = true ∧ n.testBit 2 = true)) : s.loadSegment x (BitVec.ofNat 16 n) =
      .ok { s with seg := s.seg.set x (s.segmentFor n), holdIRQ := s.holdIRQ || x == .ss } := by
  have hsel : (BitVec.ofNat 16 n).toNat = n := by rw [BitVec.toNat_ofNat, Nat.mod_eq_of_lt hn]
  rw [← hsel] at h
  rw [loadSegment_eq x h, hsel]

theorem hold_or_ss (b : Bool) (x : Sreg) : (b || x == .ss) = if x = .ss then true else b := by
  cases x with
  | ss => exact Bool.or_true b
  | es | cs | ds | fs | gs => exact Bool.or_false b

/-- Settles O26: the resolver fails by R147 alone, and a load that does not fail writes the register and `holdIRQ`. -/
theorem segmentLoadResult : Obligations.SegmentLoadResult := by
  intro s x sel
  refine ⟨fun ⟨hpe, hti⟩ => ?_, fun h => ⟨_, loadSegment_eq x h, seg_get_set_same s.seg x _,
    fun y hy => seg_get_set_ne s.seg _ hy, rfl⟩⟩
  rw [State.loadSegment, resolve_ldt hpe hti]

/-- Settles O24: with PE clear no load fails, and each gives the register `realSegment`. -/
theorem realModeLoad : Obligations.RealModeLoad := by
  intro s x sel hreal
  have hok : ¬ (s.pe = true ∧ sel.getLsbD 2 = true) := fun h => Bool.false_ne_true (hreal.symm.trans h.1)
  have hsel : sel.toNat < 2 ^ 16 := sel.isLt
  have hbase : (BitVec.ofNat 32 (16 * sel.toNat)).toNat = sel.toNat * 2 ^ 4 := by
    rw [BitVec.toNat_ofNat]
    omega
  refine ⟨_, loadSegment_eq x hok, ?_⟩
  simp only [seg_get_set_same, segmentFor_real hreal, realSegment_eq, hbase, and_self]

/-- Settles O27: a load raises `holdIRQ` exactly when the register is SS. -/
theorem stackSegmentLoadHolds : Obligations.StackSegmentLoadHolds := by
  intro s t x sel h
  obtain ⟨g, -, rfl⟩ := loadSegment_ok h
  exact hold_or_ss s.holdIRQ x

/-! LGDT and LIDT (R149 to R151). -/

/-- An instruction whose step leaves EIP and CS alone completes with what the step answers, EIP past it (R31, R236). -/
theorem exec_of_recordStep {i : Instr} {s u : State} (hstep : recordStep (s.recordOf i) s = .ok u)
    (heip : u.eip = s.eip) (hcs : u.seg.cs = s.seg.cs) :
    exec i s = .next { u with eip := s.eipAfter i.length } := by
  have hlen : (s.recordOf i).len = i.length := (record_len s.codeMode i {}).trans (Nat.zero_add _)
  rw [exec_eq_complete, hstep, hlen, ← advance_eip_eq heip hcs]
  rfl

/-- The table register of a 6-byte image in memory (R149). -/
theorem tableFromImage_readFrom (m : Memory) (la : Word) (w : Width) : tableFromImage (m.readFrom la 6) w =
    { limit := BitVec.ofNat 16 (m.numberAt la 2)
      base := BitVec.ofNat 32 (m.numberAt (la + 2) (if w = .w32 then 4 else 3)) } := by
  have himage : (valueOf 48 (m.readFrom la 6)).toNat = m.numberAt la 6 :=
    (valueOf_toNat 6 _ (readFrom_length m la 6).le).trans (leNat_readFrom m la 6)
  have hlimit : m.numberAt la 2 < 2 ^ 16 := numberAt_lt m la 2
  have hbase : m.numberAt (la + 2) 3 < 2 ^ 24 := numberAt_lt m (la + 2) 3
  have h6 : m.numberAt la 6 = m.numberAt la 2 + 2 ^ 16 * m.numberAt (la + 2) 4 := numberAt_add m la 2 4
  have h4 : m.numberAt (la + 2) 4 = m.numberAt (la + 2) 3 + 2 ^ 24 * m.numberAt (la + 2 + 3) 1 :=
    numberAt_add m (la + 2) 3 1
  have hlow : (valueOf 48 (m.readFrom la 6)).extractLsb' 0 16 = BitVec.ofNat 16 (m.numberAt la 2) := by
    apply BitVec.eq_of_toNat_eq
    rw [toNat_extractLsb'_eq, himage, BitVec.toNat_ofNat]
    omega
  have hwide : (valueOf 48 (m.readFrom la 6)).extractLsb' 16 32 = BitVec.ofNat 32 (m.numberAt (la + 2) 4) := by
    apply BitVec.eq_of_toNat_eq
    rw [toNat_extractLsb'_eq, himage, BitVec.toNat_ofNat]
    omega
  have hnarrow : ((valueOf 48 (m.readFrom la 6)).extractLsb' 16 24).setWidth 32 =
      BitVec.ofNat 32 (m.numberAt (la + 2) 3) := by
    apply BitVec.eq_of_toNat_eq
    rw [BitVec.toNat_setWidth, toNat_extractLsb'_eq, himage, BitVec.toNat_ofNat]
    omega
  cases w with
  | w32 =>
    simp only [tableFromImage, hlow, hwide]
    rfl
  | w8 | w16 =>
    simp only [tableFromImage, hlow, hnarrow]
    rfl

theorem lgdtStep_of_image {r : Record} {s : State} {g : TableReg} (h : tableImage r s = .ok g) :
    lgdtStep r s = .ok { s with gdtr := g } := by
  rw [lgdtStep, h]
  rfl

theorem lidtStep_of_image {r : Record} {s : State} {g : TableReg} (h : tableImage r s = .ok g) :
    lidtStep r s = .ok { s with idtr := g } := by
  rw [lidtStep, h]
  rfl

/-- Settles O28: both read the image in memory, and each writes its own register alone. -/
theorem descriptorTableLoads : Obligations.DescriptorTableLoads := by
  intro s i base index scale disp z hmem r la table
  have himage : tableImage r s = .ok table := by
    rw [tableImage, hmem]
    exact congrArg Except.ok (tableFromImage_readFrom s.mem la r.osz)
  refine ⟨fun hop => ?_, fun hop => ?_⟩
  · have hstep : recordStep r s = lgdtStep r s := by rw [recordStep, hop]
    exact exec_of_recordStep (hstep.trans (lgdtStep_of_image himage)) rfl rfl
  · have hstep : recordStep r s = lidtStep r s := by rw [recordStep, hop]
    exact exec_of_recordStep (hstep.trans (lidtStep_of_image himage)) rfl rfl

end Sys2Proof.Machine
end

section
/-! Instructions that load a segment register: MOV to one, the SS shadow, and that none loads CS
(41_segmentation.md R146, R152, R153; 60_exceptions.md R245). -/

namespace Sys2Proof

/-! Which instructions load a segment register. -/

/-- No data operand is a segment register (10_state.md R25). -/
theorem dataOperand_ne_sreg {w : Width} {o : Operand} (h : dataOperand w o) (x : Sreg) : o ≠ .reg x.id := by
  rintro rfl
  have hview := Machine.ofId_sreg x
  cases w with
  | w8 => obtain ⟨r, hr⟩ := h; rw [hr, Machine.ofId_reg8] at hview; cases hview
  | w16 => obtain ⟨r, hr⟩ := h; rw [hr, Machine.ofId_gpr16] at hview; cases hview
  | w32 => obtain ⟨r, hr⟩ := h; rw [hr, Machine.ofId_gpr32] at hview; cases hview

theorem sreg_id_inj {x y : Sreg} (h : x.id = y.id) : x = y := by
  have hview := Machine.ofId_sreg x
  rw [h, Machine.ofId_sreg] at hview
  cases hview
  rfl

/-- The ids of control, debug and test registers name no segment register. -/
theorem control_id_ne_sreg {id : Nat}
    (h : (∃ c : Cr, id = c.id) ∨ (∃ n : Fin 8, id = 48 + n.val) ∨ ∃ n : Fin 8, id = 35 + n.val) (x : Sreg) :
    Operand.reg id ≠ .reg x.id := by
  intro he
  have hview := Machine.ofId_sreg x
  rw [← Operand.reg.inj he] at hview
  obtain ⟨c, rfl⟩ | ⟨n, rfl⟩ | ⟨n, rfl⟩ := h
  · rw [Machine.ofId_cr] at hview; cases hview
  · rw [Machine.ofId_dr] at hview; cases hview
  · rw [Machine.ofId_tr] at hview; cases hview

theorem not_loads_of_data {r : Record} {w : Width} {x : Sreg} (h : dataOperand w (r.operand 0)) : ¬ r.loads x :=
  fun hload => dataOperand_ne_sreg h x hload.2

theorem not_loads_of_op {r : Record} {x : Sreg} (hmov : r.op ≠ .mov) (hpop : r.op ≠ .pop) : ¬ r.loads x :=
  fun hload => hload.1.elim hmov hpop

/-- No instruction that has an encoding loads CS, whatever prefixes stand before it (R120, R153). -/
theorem not_loads_cs (m : CodeMode) (p : Prefixes) (i : Instr) (h : Instr.formsOk m p i = true) :
    ¬ (Instr.record m p i).loads .cs := by
  induction i generalizing p with
  | segEs i ih | segCs i ih | segSs i ih | segDs i ih | segFs i ih | segGs i ih | opsize i ih | adsize i ih
  | lock i ih | repne i ih | rep i ih => exact ih _ h
  | movSregRm16 sr rm =>
    rintro ⟨-, hd⟩
    have hcs : sr = .cs := sreg_id_inj (Operand.reg.inj hd)
    subst hcs
    exact absurd h (by simp [Instr.formsOk])
  | movRm8R8 rm r | movRm8Imm8 rm v => exact not_loads_of_data (data_rm8 rm)
  | movRmvRv rm r | movRm16Sreg rm sr | movRmvImm rm v | popRmv rm => exact not_loads_of_data (data_rmv rm (p.osz m))
  | movR8Rm8 r rm | movR8Imm8 r v => exact not_loads_of_data (data_reg8 r)
  | movRvRmv r rm | movRvImm r v | popRv r => exact not_loads_of_data (data_gpr r (p.osz m))
  | movAlMoffs a => exact not_loads_of_data (data_reg8 .al)
  | movEaxMoffs a => exact not_loads_of_data (data_gpr .eax (p.osz m))
  | movMoffsAl a | movMoffsEax a => exact not_loads_of_data (data_moffs a .w32)
  | movR32Cr x r c | movR32Dr x r c | movR32Tr x r c => exact not_loads_of_data (data_gpr r .s32)
  | movCrR32 x c r => exact fun hload => control_id_ne_sreg (.inl ⟨c, rfl⟩) .cs hload.2
  | movDrR32 x n r => exact fun hload => control_id_ne_sreg (.inr (.inl ⟨n, rfl⟩)) .cs hload.2
  | movTrR32 x n r => exact fun hload => control_id_ne_sreg (.inr (.inr ⟨n, rfl⟩)) .cs hload.2
  | popEs | popSs | popDs | popFs | popGs => rintro ⟨-, hd⟩; cases hd
  | _ => exact not_loads_of_op (by nofun) (by nofun)

theorem operand_one {r : Record} {d o : Operand} {l : List Operand} (ho : r.opnd = d :: o :: l) : r.operand 1 = o := by
  simp [Record.operand, ho]

/-- The source of a MOV to a segment register is a 16-bit register or memory (R152). -/
theorem mov_sreg_source {r : Record} (hr : RecordShape r) (hop : r.op = .mov) {x : Sreg} (hload : r.loads x) :
    dataOperand .w16 (r.operand 1) := by
  obtain ⟨-, hd⟩ := hload
  cases hr with
  | moveSeg y _ _ ho hs =>
    rwa [operand_one ho]
  | moveFrom _ ho hdata _ =>
    rw [← Machine.operand_zero ho] at hdata
    exact absurd hd (dataOperand_ne_sreg hdata x)
  | moveControl g _ _ ho hid =>
    rw [Machine.operand_zero ho] at hd
    exact absurd hd (control_id_ne_sreg hid x)
  | alu y hop' _ _ _ => cases y <;> cases hop.symm.trans hop'
  | incDec hop' _ _ | shift hop' _ _ _ | table hop' _ _ => rw [hop] at hop'; cases hop' <;> contradiction
  | push hop' _ _ _ | pushSeg _ hop' _ _ | pop hop' _ _ _ | popSeg _ hop' _ _ _ => cases hop.symm.trans hop'

end Sys2Proof

namespace Sys2Proof.Machine

/-! MOV to a segment register (R152). -/

/-- A register or memory operand evaluates to its value in n bytes (42_operands_move.md R160, R161). -/
theorem evaluate_data (s : State) (r : Record) {k : Nat} {w : Width} (h : dataOperand w (r.operand k)) (n : Nat) :
    ∃ v, s.evaluate r.seg (r.operand k) n = .ok v ∧ leNat v = s.sourceNat r k n ∧ v.length = n := by
  rw [State.sourceNat]
  cases ho : r.operand k with
  | reg id => exact ⟨_, rfl, leNat_bytesOf n _, bytesOf_length n _⟩
  | mem base index scale disp z => exact ⟨_, rfl, leNat_readFrom s.mem _ n, readFrom_length s.mem _ n⟩
  | imm _ _ | far _ _ _ | undefinedKind => rw [ho] at h; exact h.elim

theorem sourceNat_lt (s : State) (r : Record) {k : Nat} {w : Width} (h : dataOperand w (r.operand k)) (n : Nat) :
    s.sourceNat r k n < 256 ^ n := by
  obtain ⟨v, -, hvalue, hlen⟩ := evaluate_data s r h n
  rw [← hvalue, ← hlen]
  exact leNat_lt v

/-- MOV to a segment register is the load of its 16-bit source, whatever the operand size. -/
theorem movStep_sreg (s : State) {r : Record} {x : Sreg} (hload : r.loads x)
    (hsource : dataOperand .w16 (r.operand 1)) : movStep r s =
    s.loadSegment x (BitVec.ofNat 16 (s.sourceNat r 1 2)) := by
  have hd : r.operand 0 = .reg x.id := hload.2
  have hbytes : movBytes r = 2 := by
    rw [movBytes, hd]
    cases x <;> rfl
  obtain ⟨v, hv, hvalue, -⟩ := evaluate_data s r hsource 2
  rw [movStep, hbytes, hv, hd, ← hvalue]
  exact (store_reg r.seg x.id v).trans (congrArg (s.writeView · (leNat v)) (ofId_sreg x))

/-- Settles O31: the step is the load of the source, which leaves EIP and CS to the advance. -/
theorem movToSegmentRegister : Obligations.MovToSegmentRegister := by
  intro s i x hop hload hcs hfail
  have hsource : dataOperand .w16 ((s.recordOf i).operand 1) :=
    mov_sreg_source (record_shape s.codeMode i {}) hop hload
  have hok : ¬ (s.pe = true ∧ (s.sourceNat (s.recordOf i) 1 2).testBit 2 = true) := by
    rintro ⟨hpe, hti⟩
    refine hfail ⟨⟨x, hload⟩, hpe, ?_⟩
    rwa [State.selectorOf, if_pos hop]
  have hmov : recordStep (s.recordOf i) s = movStep (s.recordOf i) s := by rw [recordStep, hop]
  have hstep := (hmov.trans (movStep_sreg s hload hsource)).trans (loadSegment_ofNat x (sourceNat_lt s _ hsource 2) hok)
  have hcs' : (s.seg.set x (s.segmentFor (s.sourceNat (s.recordOf i) 1 2))).cs = s.seg.cs :=
    seg_get_set_ne s.seg _ hcs.symm
  exact ⟨_, exec_of_recordStep hstep rfl hcs', rfl, seg_get_set_same _ _ _, fun y hy => seg_get_set_ne _ _ hy,
    hold_or_ss s.holdIRQ x, rfl, rfl, ⟨rfl, rfl, rfl, rfl, rfl, rfl, rfl, rfl⟩, fun _ => rfl⟩

/-- Settles O52: the decoder gives nothing that loads CS, and nothing else writes it. -/
theorem stepNeverLoadsCs : Obligations.StepNeverLoadsCs := by
  intro s t h
  obtain ⟨-, rfl⟩ | ⟨i, hdec, hexec⟩ := runInstruction_next h
  · rfl
  · obtain ⟨u, hu, rfl⟩ := exec_writes hexec
    obtain ⟨hwf, -⟩ := encodeOfDecode _ _ i hdec
    have hno : ¬ (s.boundary.recordOf i).loads .cs := not_loads_cs _ {} i (formsOk_of_wf hwf)
    exact by_contra fun hne => hno (hu.of_seg (x := .cs) hne)

/-! The SS shadow (R146, R245). -/

/-- A MOV or POP to a segment register that completes has loaded it, and holds interrupts if it is SS. -/
theorem recordStep_loads {r : Record} {x : Sreg} (hload : r.loads x) {s t : State} (h : recordStep r s = .ok t) :
    t.holdIRQ = (s.holdIRQ || x == .ss) := by
  obtain ⟨hop | hop, hd⟩ := hload
  · rw [recordStep, hop] at h
    obtain ⟨v, -, hv⟩ := movStep_ok h
    rw [hd] at hv
    obtain ⟨d, rfl⟩ := store_sreg hv
    rfl
  · rw [recordStep, hop] at h
    have hstore : (s.pop r.osz.bytes).2.store r.seg (.reg x.id) (s.pop r.osz.bytes).1 = .ok t := by
      rw [← h, popStep, hd]
      rfl
    obtain ⟨d, rfl⟩ := store_sreg hstore
    exact congrArg (· || x == .ss) (pop_holdIRQ s _)

theorem exec_ss_holds {i : Instr} {s t : State} (hload : (s.recordOf i).loads .ss) (h : exec i s = .next t) :
    t.holdIRQ = true := by
  obtain ⟨u, hu, rfl⟩ := exec_next h
  exact (recordStep_loads hload hu).trans (Bool.or_true _)

/-- Settles O55: the load of SS is what raises the hold, and the boundary lowers it. -/
theorem ssShadowLastsOneBoundary : Obligations.SsShadowLastsOneBoundary := by
  intro s t u i j hi hload hj
  have hheld : t.window = .held := if_pos (exec_ss_holds hload hi)
  refine ⟨fun req => by simp only [State.driverBoundary, hheld], fun hu => ?_, fun hload' => exec_ss_holds hload' hj⟩
  obtain ⟨w, hw, rfl⟩ := exec_writes hj
  exact hw.of_holdIRQ fun he => Bool.false_ne_true (he.symm.trans hu)

end Sys2Proof.Machine
end

section
/-! Evaluate and Store of every operand, and MOV: what an operand evaluates to, what a store of data delivers and leaves
alone (42_operands_move.md R160 to R181). -/

namespace Sys2Proof

/-! The value of an operand (R160 to R163). -/

/-- An operand of as many bytes as Evaluate is asked for: a register, memory or an immediate. -/
def Operand.hasValue : Operand → Prop
  | .reg _ | .mem _ _ _ _ _ | .imm _ _ => True
  | .far _ _ _ | .undefinedKind => False

theorem hasValue_of_source {w : Width} {o : Operand} (h : sourceOperand w o ∨ ∃ id, o = .reg id) : o.hasValue := by
  obtain (hdata | ⟨v, k, rfl⟩) | ⟨id, rfl⟩ := h
  · cases o with
    | reg _ | mem _ _ _ _ _ => trivial
    | imm _ _ | far _ _ _ | undefinedKind => exact hdata.elim
  · trivial
  · trivial

/-- Digit k of the number a byte sequence stands for is its byte k (20_memory.md R74). -/
theorem ofNat_leNat_div_pow {bs : List Byte} {k : Nat} (hk : k < bs.length) :
    BitVec.ofNat 8 (leNat bs / 256 ^ k) = bs[k] := by
  induction bs generalizing k with
  | nil => exact absurd hk (Nat.not_lt_zero k)
  | cons b bs ih =>
    have hb : b.toNat < 256 := b.isLt
    cases k with
    | zero =>
      apply BitVec.eq_of_toNat_eq
      rw [BitVec.toNat_ofNat, leNat_cons, List.getElem_cons_zero]
      omega
    | succ k =>
      have hrest : leNat (b :: bs) / 256 = leNat bs := by
        rw [leNat_cons]
        omega
      rw [Nat.pow_succ', ← Nat.div_div_eq_div_mul, hrest, List.getElem_cons_succ]
      exact ih (Nat.lt_of_succ_lt_succ hk)

/-- A general register of a width has an id of 1 to 24 and the size of the width (10_state.md R25, R26). -/
theorem dataOperand_reg {w : Width} {id : Nat} (h : dataOperand w (.reg id)) :
    1 ≤ id ∧ id ≤ 24 ∧ Machine.registerSize id = w.bytes := by
  cases w with
  | w8 => obtain ⟨r, rfl⟩ := h; cases r <;> decide
  | w16 => obtain ⟨r, rfl⟩ := h; cases r <;> decide
  | w32 => obtain ⟨r, rfl⟩ := h; cases r <;> decide

end Sys2Proof

namespace Sys2Proof.Machine

/-- An immediate as n bytes: cut where it is longer, sign-extended where it is shorter (R162). -/
theorem leNat_immBytes (x : Word) (k n : Nat) : leNat (immBytes x k n) = immNat x k n := by
  have hbits : ∀ j, 2 ^ (8 * j) = 256 ^ j := fun j => Nat.pow_mul 2 8 j
  have hvalue : (x.setWidth (8 * k)).toNat = x.toNat % 256 ^ k := by rw [BitVec.toNat_setWidth, hbits]
  have hlt : x.toNat % 256 ^ k < 256 ^ k := Nat.mod_lt _ (Nat.pow_pos (by decide))
  rw [immBytes, leNat_bytesOf, immNat]
  by_cases hkn : k < n
  · have hpow : 256 ^ k ≤ 256 ^ n := Nat.pow_le_pow_right (by decide) hkn.le
    have hsign : (x.setWidth (8 * k)).msb = decide (256 ^ k ≤ 2 * (x.toNat % 256 ^ k)) := by
      rw [Bool.eq_iff_iff, BitVec.msb_eq_true_iff_two_mul_ge, hvalue, hbits, decide_eq_true_eq]
    rw [Nat.max_eq_left hkn.le, BitVec.toNat_signExtend, BitVec.toNat_setWidth, hvalue, hsign, hbits, hbits]
    by_cases hneg : 256 ^ k ≤ 2 * (x.toNat % 256 ^ k)
    · simp only [hkn, hneg, decide_true, if_true, and_self]
      rw [Nat.mod_eq_of_lt (lt_of_lt_of_le hlt hpow), Nat.mod_eq_of_lt (by omega)]
    · simp only [hneg, decide_false, Bool.false_eq_true, if_false, and_false, Nat.add_zero, Nat.mod_mod]
  · rw [Nat.max_eq_right (Nat.le_of_not_lt hkn), BitVec.signExtend_eq, hvalue, if_neg fun h => hkn h.1]

/-- A register, memory or immediate operand evaluates to n bytes that stand for its value (R160 to R162). -/
theorem evaluate_value (s : State) (r : Record) {k : Nat} (h : (r.operand k).hasValue) (n : Nat) :
    ∃ v, s.evaluate r.seg (r.operand k) n = .ok v ∧ v.length = n ∧ leNat v = s.sourceNat r k n := by
  rw [State.sourceNat]
  cases ho : r.operand k with
  | reg id => exact ⟨_, rfl, bytesOf_length n _, leNat_bytesOf n _⟩
  | mem base index scale disp z => exact ⟨_, rfl, readFrom_length s.mem _ n, leNat_readFrom s.mem _ n⟩
  | imm x j => exact ⟨_, rfl, bytesOf_length n _, leNat_immBytes x j n⟩
  | far _ _ _ | undefinedKind => rw [ho] at h; exact h.elim

/-- Settles O21: the three kinds that have a value, and the far address by definition. -/
theorem evaluateGivesTheValue : Obligations.EvaluateGivesTheValue := by
  intro s r k n
  refine ⟨fun id ho => evaluate_value s r ?_ n, fun base index scale disp z ho => evaluate_value s r ?_ n,
    fun x j ho => evaluate_value s r ?_ n, fun sel off j ho => ?_⟩
  · rw [ho]; trivial
  · rw [ho]; trivial
  · rw [ho]; trivial
  · rw [ho]; rfl

/-! A store of what was evaluated (R168). -/

/-- Writing back the bytes of a canonical memory changes nothing. -/
theorem writeFrom_readFrom {m : Memory} (h : m.wf = true) (la : Word) {n : Nat} (hn : n ≤ 2 ^ 32) :
    m.writeFrom la (m.readFrom la n) = m := by
  have hlen : (m.readFrom la n).length = n := readFrom_length m la n
  refine memory_ext (wf_writeFrom h la _) h fun x => ?_
  by_cases hx : ∃ k, k < n ∧ x = la + BitVec.ofNat 32 k
  · obtain ⟨k, hk, rfl⟩ := hx
    have hbyte : some (m.readFrom la n)[k] = some (m.read (la + BitVec.ofNat 32 k)) :=
      (List.getElem?_eq_getElem _).symm.trans (readFrom_getElem? m la hk)
    exact (read_writeFrom m la _ (hlen.trans_le hn) (hk.trans_eq hlen.symm)).trans (Option.some.inj hbyte)
  · exact read_writeFrom_of_not_mem m la x _ fun k hk he => hx ⟨k, hk.trans_eq hlen, he⟩

theorem gpr_ext {g h : GprFile} (e : ∀ r, g.get r = h.get r) : g = h := by
  cases g
  cases h
  simp only [GprFile.mk.injEq]
  exact ⟨e .eax, e .ecx, e .edx, e .ebx, e .esp, e .ebp, e .esi, e .edi⟩

theorem gpr_set16_get16 (g : GprFile) (r : Gpr) : g.set16 r (g.get16 r) = g := by
  apply gpr_ext
  intro x
  by_cases hx : x = r
  · subst hx
    refine BitVec.eq_of_getLsbD_eq fun k _ => (gpr_set16_bit g x _ k).trans ?_
    split
    · next hk => simp [GprFile.get16, hk]
    · rfl
  · exact gpr_get16_ne g _ hx

theorem gpr_set8_get8 (g : GprFile) (r : Reg8) : g.set8 r (g.get8 r) = g := by
  apply gpr_ext
  intro x
  by_cases hx : x = r.cell
  · subst hx
    refine BitVec.eq_of_getLsbD_eq fun k _ => (gpr_set8_bit g r _ k).trans ?_
    split
    · next hhigh =>
      split
      · next hk =>
        have hbyte : k - 8 < 8 := by omega
        simp [GprFile.get8, hhigh, hbyte, Nat.add_sub_cancel' hk.1]
      · rfl
    · next hlow =>
      split
      · next hk => simp [GprFile.get8, hlow, hk]
      · rfl
  · exact gpr_get8_ne g _ hx

theorem cr_set_get (f : CrFile) (c : Cr) : f.set c (f.get c) = f := by cases c <;> rfl

theorem bank_set_get (f : Bank8) (n : Fin 8) : f.set n (f.get n) = f := by fin_cases n <;> rfl

/-- The value read through a view fits in the bytes of the view (10_state.md R26, R28). -/
theorem viewValue_lt (s : State) (x : RegView) : s.viewValue x < 256 ^ x.size := by
  cases x with
  | absent => exact Nat.one_pos
  | byte r => exact (s.gpr.get8 r).isLt
  | half r => exact (s.gpr.get16 r).isLt
  | full r => exact (s.gpr.get r).isLt
  | eip => exact s.eip.isLt
  | eflags => exact s.eflags.isLt
  | seg r => exact (s.seg.get r).selector.isLt
  | gdtr =>
    have hlimit := s.gdtr.limit.isLt
    have hbase := s.gdtr.base.isLt
    simp only [State.viewValue, TableReg.image, RegView.size]
    omega
  | idtr =>
    have hlimit := s.idtr.limit.isLt
    have hbase := s.idtr.base.isLt
    simp only [State.viewValue, TableReg.image, RegView.size]
    omega
  | ldtr =>
    have hsel := s.ldtr.selector.isLt
    have hbase := s.ldtr.base.isLt
    have hlimit := s.ldtr.limit.isLt
    simp only [State.viewValue, LdtReg.image, RegView.size]
    omega
  | tr n => exact (s.tr.get n).isLt
  | cr c => exact (s.cr.get c).isLt
  | dr n => exact (s.dr.get n).isLt

/-- Writing back what a view reads as changes nothing, a segment register apart: its load reads a descriptor again. -/
theorem writeView_viewValue {s : State} (he : eflagsFixed s.eflags = true) {x : RegView} (hx : ∀ r, x ≠ .seg r) :
    s.writeView x (s.viewValue x) = .ok s := by
  have hword : ∀ v : Word, BitVec.ofNat 32 v.toNat = v := fun v => by rw [BitVec.ofNat_toNat, BitVec.setWidth_eq]
  cases x with
  | absent => rfl
  | byte r => simp only [State.writeView, State.viewValue, BitVec.ofNat_toNat, BitVec.setWidth_eq, gpr_set8_get8]
  | half r => simp only [State.writeView, State.viewValue, BitVec.ofNat_toNat, BitVec.setWidth_eq, gpr_set16_get16]
  | full r => simp only [State.writeView, State.viewValue, hword, gpr_set_get]
  | eip => simp only [State.writeView, State.viewValue, hword]
  | eflags => simp only [State.writeView, State.viewValue, hword, (eflagsFixed_iff _).1 he]
  | seg r => exact absurd rfl (hx r)
  | gdtr => simp only [State.writeView, State.viewValue, ofImage_image]
  | idtr => simp only [State.writeView, State.viewValue, ofImage_image]
  | ldtr => simp only [State.writeView, State.viewValue, ldt_ofImage_image]
  | tr n => simp only [State.writeView, State.viewValue, hword, bank_set_get]
  | cr c => simp only [State.writeView, State.viewValue, hword, cr_set_get]
  | dr n => simp only [State.writeView, State.viewValue, hword, bank_set_get]

/-- The ids 27 to 32 alone name segment registers. -/
theorem ofId_ne_seg {id : Nat} (h : ¬ (27 ≤ id ∧ id ≤ 32)) (r : Sreg) : RegView.ofId id ≠ .seg r := by
  by_cases h56 : id < 56
  · have hviews : ∀ j < 56, ¬ (27 ≤ j ∧ j ≤ 32) → RegView.ofId j ≠ .seg r := by cases r <;> decide
    exact hviews id h56 h
  · rw [ofId_absent (.inr (Nat.le_of_not_lt h56))]
    exact nofun

/-- Settles O23: memory by its bytes, a register through its view, whose value its own size holds whole. -/
theorem storeOfEvaluateChangesNothing : Obligations.StoreOfEvaluateChangesNothing := by
  intro s g hwf he
  refine ⟨fun base index scale disp z n hn => ⟨_, rfl, ?_⟩, fun id hid => ⟨_, rfl, ?_⟩⟩
  · rw [store_mem, writeFrom_readFrom hwf _ (hn.trans (by decide))]
  · have hvalue : leNat (bytesOf (registerSize id) (s.registerValue id)) = s.viewValue (RegView.ofId id) :=
      leNat_bytesOf_of_lt (viewValue_lt s _)
    rw [store_reg, hvalue]
    exact writeView_viewValue he (ofId_ne_seg hid)

/-! What a store to a general register or memory delivers (R164, R165). -/

/-- The general registers alone decide what the ids 1 to 24 read as. -/
theorem registerValue_of_gpr {s t : State} {id : Nat} (h1 : 1 ≤ id) (h24 : id ≤ 24) (h : t.gpr = s.gpr) :
    t.registerValue id = s.registerValue id := by
  obtain ⟨r, rfl⟩ | ⟨r, rfl⟩ | ⟨r, rfl⟩ := gpr_id_cases h1 h24
  · simp only [State.registerValue, ofId_reg8, State.viewValue, h]
  · simp only [State.registerValue, ofId_gpr16, State.viewValue, h]
  · simp only [State.registerValue, ofId_gpr32, State.viewValue, h]

section
variable {s t : State} {r : Record} {n v : Nat}

/-- What is delivered shows in the general registers and memory alone. -/
theorem delivers_of_same {t' : State} (hd : dataOperand r.osz (r.operand 0)) (h : delivers s r n v t)
    (hgpr : t'.gpr = t.gpr) (hmem : t'.mem = t.mem) : delivers s r n v t' := by
  unfold delivers at h ⊢
  cases ho : r.operand 0 with
  | reg id =>
    rw [ho] at h hd
    obtain ⟨hvalue, hkept, hsame⟩ := h
    obtain ⟨h1, h24, -⟩ := dataOperand_reg hd
    refine ⟨(registerValue_of_gpr h1 h24 hgpr).trans hvalue, fun g k hk => ?_, fun x => ?_⟩
    · rw [hgpr, hkept g k hk]
    · rw [hmem, hsame x]
  | mem base index scale disp z =>
    rw [ho] at h
    obtain ⟨hholds, hkept, hsame⟩ := h
    refine ⟨fun k hk => ?_, fun x hx => ?_, hgpr.trans hsame⟩
    · rw [hmem, hholds k hk]
    · rw [hmem, hkept x hx]
  | imm _ _ | far _ _ _ | undefinedKind => rw [ho] at hd; exact hd.elim

/-- A store to a general register or memory completes, and writes the destination's bytes and nothing else. -/
theorem store_delivers (s : State) {v : OperandValue} (hd : dataOperand r.osz (r.operand 0)) (hlen : v.length ≤ 2 ^ 32)
    (hreg : ∀ id, r.operand 0 = .reg id → v.length = r.osz.bytes) :
    ∃ gpr mem, s.store r.seg (r.operand 0) v = .ok { s with gpr := gpr, mem := mem } ∧
      delivers s r v.length (leNat v) { s with gpr := gpr, mem := mem } := by
  unfold delivers
  cases ho : r.operand 0 with
  | reg id =>
    rw [ho] at hd
    obtain ⟨h1, h24, hsize⟩ := dataOperand_reg hd
    obtain ⟨t, hwrite, hvalue, hkept, ht⟩ := writeThroughView s id (leNat v) h1 h24
    have hfits : leNat v % 256 ^ registerSize id = leNat v := by
      rw [hsize, ← hreg id ho]
      exact Nat.mod_eq_of_lt (leNat_lt v)
    rw [ht] at hwrite hvalue hkept
    exact ⟨t.gpr, s.mem, hwrite, hvalue.trans hfits, hkept, fun _ => rfl⟩
  | mem base index scale disp z =>
    refine ⟨s.gpr, _, rfl, fun k hk => ?_, fun x hx => read_writeFrom_of_not_mem _ _ x v hx, rfl⟩
    exact (read_writeFrom s.mem _ v hlen hk).trans (ofNat_leNat_div_pow hk).symm
  | imm _ _ | far _ _ _ | undefinedKind => rw [ho] at hd; exact hd.elim

end

/-! MOV to a general register or memory (R169, R171, R173, R175 to R181). -/

/-- The id of a control, debug or test register is one `writesControl` counts. -/
theorem control_id_range {id : Nat}
    (h : (∃ c : Cr, id = c.id) ∨ (∃ n : Fin 8, id = 48 + n.val) ∨ ∃ n : Fin 8, id = 35 + n.val) :
    (35 ≤ id ∧ id ≤ 42) ∨ (44 ≤ id ∧ id ≤ 55) := by
  obtain ⟨c, rfl⟩ | ⟨n, rfl⟩ | ⟨n, rfl⟩ := h
  · cases c <;> decide
  · omega
  · omega

/-- A MOV that loads no segment register and writes no control, debug or test register has a general register or memory
as its destination, and a source with a value. -/
theorem mov_data_operands {r : Record} (hr : RecordShape r) (hop : r.op = .mov) (hload : ∀ x, ¬ r.loads x)
    (hcontrol : ¬ r.writesControl) : dataOperand r.osz (r.operand 0) ∧ (r.operand 1).hasValue := by
  cases hr with
  | moveFrom _ ho hd hs =>
    rw [operand_zero ho, operand_one ho]
    exact ⟨hd, hasValue_of_source hs⟩
  | moveSeg x _ _ ho _ => exact absurd ⟨.inl hop, operand_zero ho⟩ (hload x)
  | moveControl g _ _ ho hid => exact absurd ⟨_, operand_zero ho, control_id_range hid⟩ hcontrol
  | alu y hop' _ _ _ => cases y <;> cases hop.symm.trans hop'
  | incDec hop' _ _ | shift hop' _ _ _ | table hop' _ _ => rw [hop] at hop'; cases hop' <;> contradiction
  | push hop' _ _ _ | pushSeg _ hop' _ _ | pop hop' _ _ _ | popSeg _ hop' _ _ _ => cases hop.symm.trans hop'

theorem movedBytes_of_reg {r : Record} {id : Nat} (h : r.operand 0 = .reg id) : r.movedBytes = r.osz.bytes := by
  rw [Record.movedBytes, h]

theorem movedBytes_le (r : Record) : r.movedBytes ≤ 4 := by
  have hwidth : r.osz.bytes ≤ 4 := by cases r.osz <;> decide
  unfold Record.movedBytes
  split
  · split
    · decide
    · exact hwidth
  · exact hwidth

theorem movBytes_eq_movedBytes {r : Record} (hd : dataOperand r.osz (r.operand 0)) : movBytes r = r.movedBytes := by
  unfold movBytes Record.movedBytes
  cases ho : r.operand 0 with
  | reg id =>
    rw [ho] at hd
    obtain ⟨-, h24, -⟩ := dataOperand_reg hd
    exact if_neg (by omega)
  | mem _ _ _ _ _ => cases r.operand 1 <;> rfl
  | imm _ _ | far _ _ _ | undefinedKind => rfl

/-- MOV to a general register or memory delivers its source's value. -/
theorem movStep_delivers (s : State) {r : Record} (hd : dataOperand r.osz (r.operand 0)) (hs : (r.operand 1).hasValue) :
    ∃ gpr mem, movStep r s = .ok { s with gpr := gpr, mem := mem } ∧
      delivers s r r.movedBytes (s.sourceNat r 1 r.movedBytes) { s with gpr := gpr, mem := mem } := by
  obtain ⟨v, hv, hlen, hvalue⟩ := evaluate_value s r hs r.movedBytes
  obtain ⟨gpr, mem, hstore, hdelivers⟩ := store_delivers s (v := v) hd
    (by rw [hlen]; exact (movedBytes_le r).trans (by decide)) fun id ho => hlen.trans (movedBytes_of_reg ho)
  rw [hlen, hvalue] at hdelivers
  refine ⟨gpr, mem, ?_, hdelivers⟩
  rw [movStep, movBytes_eq_movedBytes hd, hv]
  exact hstore

/-- Settles O29: the step writes general registers and memory alone, and delivers the source there. -/
theorem movToRegisterOrMemory : Obligations.MovToRegisterOrMemory := by
  intro s i hop hload hcontrol r n
  obtain ⟨hd, hs⟩ := mov_data_operands (record_shape s.codeMode i {}) hop hload hcontrol
  obtain ⟨gpr, mem, hstep, hdelivers⟩ := movStep_delivers s hd hs
  have hmov : recordStep r s = movStep r s := by rw [recordStep, hop]
  exact ⟨_, exec_of_recordStep (hmov.trans hstep) rfl rfl, rfl, delivers_of_same hd hdelivers rfl rfl, rfl,
    ⟨rfl, rfl, rfl, rfl, rfl, rfl, rfl, rfl⟩, rfl, rfl⟩

/-! MOV to a control, debug or test register (R170, R172, R174). -/

theorem length_withPrefixes (w : List Pfx) (i : Instr) : (withPrefixes w i).length = w.length + i.length := by
  have hlen := record_len (⟨.s16, .s16⟩) (withPrefixes w i) {}
  rw [record_withPrefixes, record_len, after_count] at hlen
  exact (hlen.trans (Nat.zero_add _)).symm

/-- A 32-bit MOV from a general register to one that is no segment register writes the register's whole value. -/
theorem movStep_fromGpr (s : State) {r : Record} {id : Nat} {g : Gpr} (hosz : r.osz = .w32)
    (ho : r.opnd = [.reg id, g.operand .s32]) (hid : ¬ (27 ≤ id ∧ id ≤ 32)) :
    movStep r s = s.writeRegister id (s.gpr.get g).toNat := by
  have hbytes : movBytes r = 4 := by
    rw [movBytes, operand_zero ho, hosz]
    exact if_neg hid
  have hvalue : leNat (bytesOf 4 (s.registerValue (g.id .s32))) = (s.gpr.get g).toNat := by
    rw [registerValue_of_view (ofId_gpr32 g)]
    exact leNat_bytesOf_of_lt (s.gpr.get g).isLt
  rw [movStep, hbytes, operand_zero ho, operand_one ho, ← hvalue]
  rfl

/-- Such a MOV behind any prefixes changes EIP and what the write changes (R103, R105). -/
theorem exec_movToControl {s u : State} (w : List Pfx) {i : Instr} {id : Nat} {g : Gpr}
    (hrecord : ∀ p, Instr.record s.codeMode p i = p.rec32 s.codeMode .mov [.reg id, g.operand .s32] 3)
    (hlen : i.length = 3) (hid : ¬ (27 ≤ id ∧ id ≤ 32)) (hu : s.writeRegister id (s.gpr.get g).toNat = .ok u)
    (heip : u.eip = s.eip) (hcs : u.seg.cs = s.seg.cs) :
    exec (withPrefixes w i) s = .next { u with eip := s.eipAfter (w.length + 3) } := by
  have hr : s.recordOf (withPrefixes w i) = (Prefixes.after {} w).rec32 s.codeMode .mov [.reg id, g.operand .s32] 3 :=
    (record_withPrefixes s.codeMode {} w i).trans (hrecord _)
  rw [← hlen, ← length_withPrefixes]
  refine exec_of_recordStep ?_ heip hcs
  rw [hr]
  exact (movStep_fromGpr s rfl rfl hid).trans hu

/-- Settles O30: each id names its register, which takes all 32 bits. -/
theorem movToControlRegister : Obligations.MovToControlRegister := by
  intro s y r w
  have hword : BitVec.ofNat 32 (s.gpr.get r).toNat = s.gpr.get r := by rw [BitVec.ofNat_toNat, BitVec.setWidth_eq]
  refine ⟨fun c => ?_, fun n => ?_, fun n => ?_⟩
  · refine exec_movToControl w (fun p => rfl) rfl ?_ (u := { s with cr := s.cr.set c (s.gpr.get r) }) ?_ rfl rfl
    · cases c <;> decide
    · rw [writeRegister_of_view (ofId_cr c), State.writeView, hword]
  · refine exec_movToControl w (fun p => rfl) rfl ?_ (u := { s with dr := s.dr.set n (s.gpr.get r) }) ?_ rfl rfl
    · omega
    · rw [writeRegister_of_view (ofId_dr n), State.writeView, hword]
  · refine exec_movToControl w (fun p => rfl) rfl ?_ (u := { s with tr := s.tr.set n (s.gpr.get r) }) ?_ rfl rfl
    · omega
    · rw [writeRegister_of_view (ofId_tr n), State.writeView, hword]

end Sys2Proof.Machine
end

section
/-! ADD, ADC, SUB, SBB, AND, OR, XOR, INC and DEC: the results and flags as numbers, and what an instruction that stores
a result and writes flags completes with (43_alu.md R185 to R201). -/

namespace Sys2Proof.Machine

/-! The results and flags as numbers (R186 to R190). -/

section
variable {w : Nat}

theorem msb_eq_testBit (x : BitVec w) : x.msb = x.toNat.testBit (w - 1) := by
  rw [BitVec.testBit_toNat, BitVec.msb_eq_getLsbD_last]

theorem parity_eq_evenParity (x : BitVec w) : parity x = evenParity x.toNat := by
  simp only [parity, evenParity, List.countP_eq_length_filter, BitVec.testBit_toNat]

theorem addCore_of (a b : BitVec w) (c : Bool) :
    (addCore a b c).of = decide (a.toNat.testBit (w - 1) = b.toNat.testBit (w - 1) ∧
      (addCore a b c).r.toNat.testBit (w - 1) ≠ a.toNat.testBit (w - 1)) := by
  simp only [← msb_eq_testBit, Bool.decide_and, ne_eq, decide_not]
  rfl

theorem subCore_of (a b : BitVec w) (c : Bool) :
    (subCore a b c).of = decide (a.toNat.testBit (w - 1) ≠ b.toNat.testBit (w - 1) ∧
      (subCore a b c).r.toNat.testBit (w - 1) ≠ a.toNat.testBit (w - 1)) := by
  simp only [← msb_eq_testBit, Bool.decide_and, ne_eq, decide_not]
  rfl

theorem addCore_cf (a b : BitVec w) (c : Bool) :
    (addCore a b c).cf = decide (2 ^ w ≤ a.toNat + b.toNat + c.toNat) := rfl

theorem addCore_af (a b : BitVec w) (c : Bool) :
    (addCore a b c).af = decide (16 ≤ a.toNat % 16 + b.toNat % 16 + c.toNat) := rfl

theorem addCore_toNat (a b : BitVec w) (c : Bool) :
    (addCore a b c).r.toNat = (a.toNat + b.toNat + c.toNat) % 2 ^ w := BitVec.toNat_ofNat _ _

/-- The subtraction core wraps below zero: one more 2^w keeps the difference a natural number. -/
theorem subCore_toNat (a b : BitVec w) (c : Bool) :
    (subCore a b c).r.toNat = (a.toNat + 2 ^ w - (b.toNat + c.toNat)) % 2 ^ w := by
  have hb : b.toNat < 2 ^ w := b.isLt
  have hc : c.toNat ≤ 1 := Bool.toNat_le c
  have hshift : (a.toNat : Int) - b.toNat - c.toNat =
      ((a.toNat + 2 ^ w - (b.toNat + c.toNat) : Nat) : Int) - ((2 ^ w : Nat) : Int) := by omega
  rw [subCore, hshift, BitVec.toNat_ofInt, Int.sub_emod_right, ← Int.natCast_emod, Int.toNat_natCast]

theorem subCore_cf (a b : BitVec w) (c : Bool) : (subCore a b c).cf = decide (a.toNat < b.toNat + c.toNat) := by
  rw [subCore, decide_eq_decide]
  omega

theorem subCore_af (a b : BitVec w) (c : Bool) : (subCore a b c).af = Config.afSub w a b c := rfl

/-! The cores with 1, as INC and DEC use them (R199, R200). -/

section
variable (x : Width) (a : BitVec x.bits)

theorem ofNat_one_toNat : (BitVec.ofNat x.bits 1).toNat = 1 := by cases x <;> rfl

theorem addCore_one_toNat : (addCore a (BitVec.ofNat x.bits 1) false).r.toNat = (a.toNat + 1) % 2 ^ x.bits := by
  rw [addCore_toNat, ofNat_one_toNat, Bool.toNat_false, Nat.add_zero]

theorem addCore_one_af : (addCore a (BitVec.ofNat x.bits 1) false).af = decide (a.toNat % 16 = 15) := by
  rw [addCore_af, ofNat_one_toNat, Bool.toNat_false, decide_eq_decide]
  omega

/-- Only the largest positive value overflows when it is incremented. -/
theorem addCore_one_of : (addCore a (BitVec.ofNat x.bits 1) false).of = decide (a.toNat = 2 ^ (x.bits - 1) - 1) := by
  have hlt := a.isLt
  rw [addCore_of, ← msb_eq_testBit, ← msb_eq_testBit, ← msb_eq_testBit]
  simp only [BitVec.msb_eq_decide, addCore_one_toNat, ofNat_one_toNat, decide_eq_decide, ne_eq]
  cases x with
  | w8 | w16 | w32 => simp only [Width.bits] at *; omega

theorem subCore_one_toNat :
    (subCore a (BitVec.ofNat x.bits 1) false).r.toNat = (a.toNat + (2 ^ x.bits - 1)) % 2 ^ x.bits := by
  rw [subCore_toNat, ofNat_one_toNat, Bool.toNat_false, Nat.add_zero, Nat.add_sub_assoc Nat.one_le_two_pow]

/-- Only the most negative value overflows when it is decremented. -/
theorem subCore_one_of : (subCore a (BitVec.ofNat x.bits 1) false).of = decide (a.toNat = 2 ^ (x.bits - 1)) := by
  have hlt := a.isLt
  rw [subCore_of, ← msb_eq_testBit, ← msb_eq_testBit, ← msb_eq_testBit]
  simp only [BitVec.msb_eq_decide, subCore_one_toNat, ofNat_one_toNat, decide_eq_decide, ne_eq]
  cases x with
  | w8 | w16 | w32 => simp only [Width.bits] at *; omega

end

/-! Which flags each computation writes (R186, R191). -/

variable {s t : State}

theorem resultFlagsOf_of_eflags {x : BitVec w} {e : Word} (h : t.eflags = resultFlags x e) :
    resultFlagsOf t w x.toNat := by
  have hzero : (x == 0) = decide (x.toNat = 0) := by
    rw [Bool.eq_iff_iff, beq_iff_eq, decide_eq_true_eq, ← BitVec.toNat_inj]
    rfl
  rw [resultFlagsOf, h, ← msb_eq_testBit, ← parity_eq_evenParity, ← hzero]
  simp [resultFlags, getFlag_setFlag]

/-- What the flags are after ADD, ADC, SUB or SBB with the core x. -/
theorem arithFlags_written {x : Arith w} (h : t.eflags = arithFlags x s.eflags) :
    getFlag t.eflags .cf = x.cf ∧ getFlag t.eflags .of = x.of ∧ getFlag t.eflags .af = x.af ∧
    resultFlagsOf t w x.r.toNat ∧ flagsKept s t [.cf, .pf, .af, .zf, .sf, .of] := by
  refine ⟨?_, ?_, ?_, resultFlagsOf_of_eflags h, fun k hk => ?_⟩
  · simp [h, arithFlags, resultFlags, getFlag_setFlag]
  · simp [h, arithFlags, resultFlags, getFlag_setFlag]
  · simp [h, arithFlags, resultFlags, getFlag_setFlag]
  · rw [h, arithFlags_other hk]

/-- What the flags are after INC or DEC with the core x. -/
theorem incDecFlags_written {x : Arith w} (h : t.eflags = incDecFlags x s.eflags) :
    getFlag t.eflags .of = x.of ∧ getFlag t.eflags .af = x.af ∧
    resultFlagsOf t w x.r.toNat ∧ flagsKept s t [.pf, .af, .zf, .sf, .of] := by
  refine ⟨?_, ?_, resultFlagsOf_of_eflags h, fun k hk => ?_⟩
  · simp [h, incDecFlags, resultFlags, getFlag_setFlag]
  · simp [h, incDecFlags, resultFlags, getFlag_setFlag]
  · rw [h, incDecFlags_other hk]

/-- What the flags are after AND, OR or XOR with the result x. -/
theorem logicFlags_written {x : BitVec w} (h : t.eflags = logicFlags x s.eflags) :
    getFlag t.eflags .cf = false ∧ getFlag t.eflags .of = false ∧
    resultFlagsOf t w x.toNat ∧ flagsKept s t [.cf, .pf, .zf, .sf, .of] := by
  refine ⟨?_, ?_, resultFlagsOf_of_eflags h, fun k hk => ?_⟩
  · simp [h, logicFlags, resultFlags, getFlag_setFlag]
  · simp [h, logicFlags, resultFlags, getFlag_setFlag]
  · rw [h, logicFlags_other hk]

end

/-! The operands of the ALU records (R117, R167). -/

section
variable {r : Record}

theorem alu_operands (hr : RecordShape r) {op : AluOp} (hop : r.op = op.opClass) :
    dataOperand r.osz (r.operand 0) ∧ (r.operand 1).hasValue := by
  cases hr with
  | alu x _ ho hd hs =>
    rw [operand_zero ho, operand_one ho]
    exact ⟨hd, hasValue_of_source (.inl hs)⟩
  | incDec hop' _ _ | shift hop' _ _ _ | table hop' _ _ =>
    rw [hop] at hop'
    cases op <;> cases hop' <;> contradiction
  | push hop' _ _ _ | pushSeg _ hop' _ _ | pop hop' _ _ _ | popSeg _ hop' _ _ _ | moveFrom hop' _ _ _
  | moveSeg _ hop' _ _ _ | moveControl _ hop' _ _ _ => cases op <;> cases hop.symm.trans hop'

theorem incDec_operand (hr : RecordShape r) (hop : r.op = .inc ∨ r.op = .dec) : dataOperand r.osz (r.operand 0) := by
  cases hr with
  | incDec _ ho hd => rwa [operand_zero ho]
  | alu x hop' _ _ _ => cases x <;> simp [hop', AluOp.opClass] at hop
  | shift hop' _ _ _ | table hop' _ _ => obtain hop' | hop' := hop' <;> simp [hop'] at hop
  | push hop' _ _ _ | pushSeg _ hop' _ _ | pop hop' _ _ _ | popSeg _ hop' _ _ _ | moveFrom hop' _ _ _
  | moveSeg _ hop' _ _ _ | moveControl _ hop' _ _ _ => simp [hop'] at hop

theorem hasValue_of_data {w : Width} {o : Operand} (h : dataOperand w o) : o.hasValue :=
  hasValue_of_source (.inl (.inl h))

end

/-- Operand k of a record as a word of the record's width. -/
def State.sourceWord (s : State) (r : Record) (k : Nat) : BitVec r.osz.bits :=
  BitVec.ofNat r.osz.bits (s.sourceNat r k r.osz.bytes)

/-- The word an operand is computed with is its evaluated value (R160 to R162, R167). -/
theorem evaluate_sourceWord (s : State) (r : Record) {k : Nat} (h : (r.operand k).hasValue) :
    ∃ v, s.evaluate r.seg (r.operand k) r.osz.bytes = .ok v ∧ valueOf r.osz.bits v = s.sourceWord r k := by
  obtain ⟨v, hv, -, hvalue⟩ := evaluate_value s r h r.osz.bytes
  exact ⟨v, hv, congrArg (BitVec.ofNat _) hvalue⟩

theorem sourceWord_toNat (s : State) (r : Record) {k : Nat} (h : (r.operand k).hasValue) :
    (s.sourceWord r k).toNat = s.sourceNat r k r.osz.bytes := by
  obtain ⟨v, -, hlen, hvalue⟩ := evaluate_value s r h r.osz.bytes
  have hlt : leNat v < 256 ^ v.length := leNat_lt v
  rw [hvalue, hlen, ← pow_bits] at hlt
  exact (BitVec.toNat_ofNat _ _).trans (Nat.mod_eq_of_lt hlt)

/-! What an instruction that stores a result and writes flags completes with (R164 to R167, R236). -/

section
variable {s : State} {i : Instr}

theorem completesWith_imp {P Q : State → Prop} (h : completesWith i s P) (himp : ∀ t, P t → Q t) :
    completesWith i s Q := by
  obtain ⟨t, hexec, heip, ht⟩ := h
  exact ⟨t, hexec, heip, himp t ht⟩

/-- A step that stores the result x and then writes the flags e delivers x and leaves all else alone. -/
theorem completesWith_result {x : BitVec (s.recordOf i).osz.bits} {e : Word}
    (hd : dataOperand (s.recordOf i).osz ((s.recordOf i).operand 0))
    (hstep : ∀ u, s.store (s.recordOf i).seg ((s.recordOf i).operand 0) (bytesOf (s.recordOf i).osz.bytes x.toNat) =
      .ok u → recordStep (s.recordOf i) s = .ok { u with eflags := e }) :
    completesWith i s fun t =>
      delivers s (s.recordOf i) (s.recordOf i).osz.bytes x.toNat t ∧ t.eflags = e ∧ systemKept s t := by
  have hlen : (bytesOf (s.recordOf i).osz.bytes x.toNat).length = (s.recordOf i).osz.bytes := bytesOf_length _ _
  have hsmall : (s.recordOf i).osz.bytes ≤ 2 ^ 32 := by cases (s.recordOf i).osz <;> decide
  have hvalue : leNat (bytesOf (s.recordOf i).osz.bytes x.toNat) = x.toNat :=
    leNat_bytesOf_of_lt (by rw [← pow_bits]; exact x.isLt)
  obtain ⟨gpr, mem, hstore, hdelivers⟩ := store_delivers s hd (hlen.trans_le hsmall) fun _ _ => hlen
  rw [hlen, hvalue] at hdelivers
  exact ⟨_, exec_of_recordStep (hstep _ hstore) rfl rfl, rfl, delivers_of_same hd hdelivers rfl rfl, rfl,
    ⟨rfl, rfl, rfl, rfl, rfl, rfl, rfl, rfl⟩, rfl, rfl⟩

/-- A two-operand ALU instruction delivers the result of `aluOp` and writes its flags (R167). -/
theorem completesWith_alu {op : AluOp} (hop : (s.recordOf i).op = op.opClass)
    {y : BitVec (s.recordOf i).osz.bits × Word}
    (hy : aluOp op (s.sourceWord (s.recordOf i) 0) (s.sourceWord (s.recordOf i) 1) s.eflags = y) :
    completesWith i s fun t =>
      delivers s (s.recordOf i) (s.recordOf i).osz.bytes y.1.toNat t ∧ t.eflags = y.2 ∧ systemKept s t := by
  obtain ⟨hd, hs⟩ := alu_operands (record_shape s.codeMode i {}) hop
  obtain ⟨a, ha, hwordA⟩ := evaluate_sourceWord s (s.recordOf i) (hasValue_of_data hd)
  obtain ⟨b, hb, hwordB⟩ := evaluate_sourceWord s (s.recordOf i) hs
  have halu : recordStep (s.recordOf i) s = aluStep op (s.recordOf i) s := by
    rw [recordStep, hop]
    cases op <;> rfl
  refine completesWith_result hd fun u hu => ?_
  rw [halu, aluStep, ha, hb]
  simp only [bind, Except.bind, hwordA, hwordB, hy, hu]
  rfl

/-- INC and DEC deliver the result of their operation and write its flags (R199, R200). -/
theorem completesWith_incDec {f : (w : Nat) → BitVec w → Word → BitVec w × Word}
    (hop : (s.recordOf i).op = .inc ∨ (s.recordOf i).op = .dec)
    (hrun : recordStep (s.recordOf i) s = incDecStep f (s.recordOf i) s) {y : BitVec (s.recordOf i).osz.bits × Word}
    (hy : f _ (s.sourceWord (s.recordOf i) 0) s.eflags = y) :
    completesWith i s fun t =>
      delivers s (s.recordOf i) (s.recordOf i).osz.bytes y.1.toNat t ∧ t.eflags = y.2 ∧ systemKept s t := by
  have hd := incDec_operand (record_shape s.codeMode i {}) hop
  obtain ⟨a, ha, hwordA⟩ := evaluate_sourceWord s (s.recordOf i) (hasValue_of_data hd)
  refine completesWith_result hd fun u hu => ?_
  rw [hrun, incDecStep, ha]
  simp only [bind, Except.bind, hwordA, hy, hu]
  rfl

/-- An instruction whose operation is the core x delivers its result and takes its carries and its overflow. -/
theorem completesWith_arith {op : AluOp} (hop : (s.recordOf i).op = op.opClass) {x : Arith (s.recordOf i).osz.bits}
    (hx : aluOp op (s.sourceWord (s.recordOf i) 0) (s.sourceWord (s.recordOf i) 1) s.eflags =
      (x.r, arithFlags x s.eflags)) :
    completesWith i s fun t =>
      delivers s (s.recordOf i) (s.recordOf i).osz.bytes x.r.toNat t ∧
      getFlag t.eflags .cf = x.cf ∧ getFlag t.eflags .of = x.of ∧ getFlag t.eflags .af = x.af ∧
      resultFlagsOf t (s.recordOf i).osz.bits x.r.toNat ∧ flagsKept s t [.cf, .pf, .af, .zf, .sf, .of] ∧
      systemKept s t := by
  refine completesWith_imp (completesWith_alu hop hx) fun t ht => ?_
  obtain ⟨hdelivers, hflags, hsystem⟩ := ht
  obtain ⟨hcf, hof, haf, hresult, hkept⟩ := arithFlags_written hflags
  exact ⟨hdelivers, hcf, hof, haf, hresult, hkept, hsystem⟩

/-- An instruction whose operation is INC or DEC with the core x takes its overflow and auxiliary carry. -/
theorem completesWith_incDecCore {f : (w : Nat) → BitVec w → Word → BitVec w × Word}
    (hop : (s.recordOf i).op = .inc ∨ (s.recordOf i).op = .dec)
    (hrun : recordStep (s.recordOf i) s = incDecStep f (s.recordOf i) s) {x : Arith (s.recordOf i).osz.bits}
    (hx : f _ (s.sourceWord (s.recordOf i) 0) s.eflags = (x.r, incDecFlags x s.eflags)) :
    completesWith i s fun t =>
      delivers s (s.recordOf i) (s.recordOf i).osz.bytes x.r.toNat t ∧
      getFlag t.eflags .of = x.of ∧ getFlag t.eflags .af = x.af ∧
      resultFlagsOf t (s.recordOf i).osz.bits x.r.toNat ∧ flagsKept s t [.pf, .af, .zf, .sf, .of] ∧
      systemKept s t := by
  refine completesWith_imp (completesWith_incDec hop hrun hx) fun t ht => ?_
  obtain ⟨hdelivers, hflags, hsystem⟩ := ht
  obtain ⟨hof, haf, hresult, hkept⟩ := incDecFlags_written hflags
  exact ⟨hdelivers, hof, haf, hresult, hkept, hsystem⟩

/-- An instruction whose operation is logical delivers the result x and takes its flags from it (R190). -/
theorem completesWith_logic {op : AluOp} (hop : (s.recordOf i).op = op.opClass) {x : BitVec (s.recordOf i).osz.bits}
    (hx : aluOp op (s.sourceWord (s.recordOf i) 0) (s.sourceWord (s.recordOf i) 1) s.eflags =
      (x, logicFlags x s.eflags)) :
    completesWith i s fun t =>
      delivers s (s.recordOf i) (s.recordOf i).osz.bytes x.toNat t ∧
      getFlag t.eflags .cf = false ∧ getFlag t.eflags .of = false ∧
      resultFlagsOf t (s.recordOf i).osz.bits x.toNat ∧ flagsKept s t [.cf, .pf, .zf, .sf, .of] ∧
      systemKept s t := by
  refine completesWith_imp (completesWith_alu hop hx) fun t ht => ?_
  obtain ⟨hdelivers, hflags, hsystem⟩ := ht
  obtain ⟨hcf, hof, hresult, hkept⟩ := logicFlags_written hflags
  exact ⟨hdelivers, hcf, hof, hresult, hkept, hsystem⟩

/-- The words an ALU instruction computes with are the values of its operands. -/
theorem alu_sourceWords {op : AluOp} (hop : (s.recordOf i).op = op.opClass) :
    (s.sourceWord (s.recordOf i) 0).toNat = s.sourceNat (s.recordOf i) 0 (s.recordOf i).osz.bytes ∧
    (s.sourceWord (s.recordOf i) 1).toNat = s.sourceNat (s.recordOf i) 1 (s.recordOf i).osz.bytes := by
  obtain ⟨hd, hs⟩ := alu_operands (record_shape s.codeMode i {}) hop
  exact ⟨sourceWord_toNat s _ (hasValue_of_data hd), sourceWord_toNat s _ hs⟩

theorem incDec_sourceWord (hop : (s.recordOf i).op = .inc ∨ (s.recordOf i).op = .dec) :
    (s.sourceWord (s.recordOf i) 0).toNat = s.sourceNat (s.recordOf i) 0 (s.recordOf i).osz.bytes :=
  sourceWord_toNat s _ (hasValue_of_data (incDec_operand (record_shape s.codeMode i {}) hop))

end

/-! The two-operand instructions (R192 to R198). -/

section
variable {r : Record}

/-- ADD and ADC are the addition core, ADC with CF as the carry in and ADD with none (R192, R194). -/
theorem aluOp_addition (hop : r.op = .add ∨ r.op = .adc) : ∃ op : AluOp, r.op = op.opClass ∧
    ∀ {w : Nat} (a b : BitVec w) (e : Word), aluOp op a b e =
      ((addCore a b (decide (r.op = .adc ∧ getFlag e .cf = true))).r,
        arithFlags (addCore a b (decide (r.op = .adc ∧ getFlag e .cf = true))) e) := by
  obtain hop | hop := hop
  · exact ⟨.add, hop, fun a b e => by simp [aluOp, hop]⟩
  · exact ⟨.adc, hop, fun a b e => by simp [aluOp, hop]⟩

/-- SUB and SBB are the subtraction core, SBB with CF as the borrow in and SUB with none (R195, R197). -/
theorem aluOp_subtraction (hop : r.op = .sub ∨ r.op = .sbb) : ∃ op : AluOp, r.op = op.opClass ∧
    ∀ {w : Nat} (a b : BitVec w) (e : Word), aluOp op a b e =
      ((subCore a b (decide (r.op = .sbb ∧ getFlag e .cf = true))).r,
        arithFlags (subCore a b (decide (r.op = .sbb ∧ getFlag e .cf = true))) e) := by
  obtain hop | hop := hop
  · exact ⟨.sub, hop, fun a b e => by simp [aluOp, hop]⟩
  · exact ⟨.sbb, hop, fun a b e => by simp [aluOp, hop]⟩

/-- AND, OR and XOR are bitwise, and so on the numbers too (R193, R196, R198). -/
theorem aluOp_logical (hop : r.op = .and ∨ r.op = .or ∨ r.op = .xor) : ∃ op : AluOp, r.op = op.opClass ∧
    ∀ {w : Nat} (a b : BitVec w) (e : Word), ∃ x, aluOp op a b e = (x, logicFlags x e) ∧
      x.toNat = if r.op = .and then a.toNat &&& b.toNat else if r.op = .or then a.toNat ||| b.toNat
        else a.toNat ^^^ b.toNat := by
  obtain hop | hop | hop := hop
  · exact ⟨.and, hop, fun a b e => ⟨a &&& b, rfl, by simp [hop]⟩⟩
  · exact ⟨.or, hop, fun a b e => ⟨a ||| b, rfl, by simp [hop]⟩⟩
  · exact ⟨.xor, hop, fun a b e => ⟨a ^^^ b, rfl, by simp [hop]⟩⟩

end

/-- Settles O32: the addition core at the values of the operands. -/
theorem addAndAdc : Obligations.AddAndAdc := by
  intro s i hop r n w a b c v
  obtain ⟨op, hclass, hcore⟩ := aluOp_addition hop
  obtain ⟨ha, hb⟩ := alu_sourceWords hclass
  have hc : (decide (r.op = .adc ∧ getFlag s.eflags .cf = true)).toNat = c := Bool.cond_decide _ _ _
  have h := completesWith_arith hclass (hcore _ _ _)
  rw [addCore_of, addCore_cf, addCore_af, addCore_toNat, ha, hb, hc] at h
  exact h

/-- Settles O33: the subtraction core at the values of the operands. -/
theorem subAndSbb : Obligations.SubAndSbb := by
  intro s i hop r n w a b borrow c v
  obtain ⟨op, hclass, hcore⟩ := aluOp_subtraction hop
  obtain ⟨ha, hb⟩ := alu_sourceWords hclass
  have hc : (decide borrow).toNat = c := Bool.cond_decide _ _ _
  have h := completesWith_arith hclass (hcore _ _ _)
  rw [subCore_of, subCore_cf, subCore_af, subCore_toNat, ha, hb, hc] at h
  exact h

/-- Settles O34: the bitwise operation on the values of the operands. -/
theorem andOrXor : Obligations.AndOrXor := by
  intro s i hop r n w a b v
  obtain ⟨op, hclass, hlogic⟩ := aluOp_logical hop
  obtain ⟨ha, hb⟩ := alu_sourceWords hclass
  obtain ⟨x, hx, hv⟩ := hlogic (s.sourceWord r 0) (s.sourceWord r 1) s.eflags
  have h := completesWith_logic hclass hx
  rw [hv, ha, hb] at h
  exact h

/-! INC and DEC (R199, R200). -/

/-- Settles O35: the addition core with 1, which overflows from the largest positive value alone. -/
theorem increment : Obligations.Increment := by
  intro s i hop r n w a v
  have ha : (s.sourceWord r 0).toNat = a := incDec_sourceWord (.inl hop)
  have hrun : recordStep r s = incDecStep (fun _ a e => incOp a e) r s := by rw [recordStep, hop]
  have h := completesWith_incDecCore (.inl hop) hrun rfl
  rw [addCore_one_of, addCore_one_af, addCore_one_toNat, ha] at h
  exact h

/-- Settles O36: the subtraction core with 1, which overflows from the most negative value alone. -/
theorem decrement : Obligations.Decrement := by
  intro s i hop r n w a v
  have ha : (s.sourceWord r 0).toNat = a := incDec_sourceWord (.inr hop)
  have hrun : recordStep r s = incDecStep (fun _ a e => decOp a e) r s := by rw [recordStep, hop]
  have h := completesWith_incDecCore (.inr hop) hrun rfl
  rw [subCore_one_of, subCore_af, subCore_one_toNat, ha] at h
  exact h

/-! The reference auxiliary carry (R189). -/

/-- Where r, b and c add up to a, the borrow out of the low four bits of a - b - c shows in the bits 4. -/
theorem borrow_eq_bit_four {r b c a : Nat} (hsum : (r + b + c) % 32 = a % 32) (hc : c ≤ 1) :
    decide (a % 16 < b % 16 + c) = (a.testBit 4 ^^ b.testBit 4 ^^ r.testBit 4) := by
  rw [Bool.eq_iff_iff, Bool.coe_xor_iff, Bool.coe_xor_iff]
  simp only [Nat.testBit_eq_decide_div_mod_eq, decide_eq_true_eq, Xor]
  omega

/-- Settles O37: the difference, what was subtracted and the borrow in add up to the first operand. -/
theorem referenceAuxiliaryCarry : Obligations.ReferenceAuxiliaryCarry := by
  intro x a b c
  have hc : c.toNat ≤ 1 := Bool.toNat_le c
  have hsum : ((a - b - BitVec.ofNat x.bits c.toNat).toNat + b.toNat + c.toNat) % 32 = a.toNat % 32 := by
    have ha := a.isLt
    have hb := b.isLt
    rw [BitVec.toNat_sub, BitVec.toNat_sub, BitVec.toNat_ofNat]
    cases x with
    | w8 | w16 | w32 => simp only [Width.bits] at *; omega
  rw [BitVec.getLsbD_xor, BitVec.getLsbD_xor]
  exact borrow_eq_bit_four hsum hc

end Sys2Proof.Machine
end

section
/-! SHL and SHR: the masked count, and the result and flags of every form (44_shift.md R205 to R213). -/

namespace Sys2Proof.Machine

/-! The masked count (R205). -/

/-- Masking the low byte with 1Fh leaves the number modulo 32. -/
theorem shiftCount_valueOf (bs : List Byte) : shiftCount (valueOf 8 bs) = leNat bs % 32 := by
  rw [shiftCount, BitVec.toNat_and, valueOf, BitVec.toNat_ofNat]
  exact (Nat.and_two_pow_sub_one_eq_mod _ 5).trans (Nat.mod_mod_of_dvd _ (by decide))

/-! The operations, their flags as numbers (R207 to R209). -/

section
variable {w : Nat} (a : BitVec w) (c : Nat)

/-- SHL: the last bit out is bit w - c, and OF compares it with the sign of the result (R207, R209). -/
theorem shlOp_eq (e : Word) : shlOp a c e =
    (a <<< c, shiftFlags (a <<< c) c (decide (c ≤ w) && a.toNat.testBit (w - c))
      (xor ((a.toNat * 2 ^ c % 2 ^ w).testBit (w - 1)) (decide (c ≤ w) && a.toNat.testBit (w - c))) e) := by
  rw [← Nat.shiftLeft_eq, ← BitVec.toNat_shiftLeft, ← msb_eq_testBit, BitVec.testBit_toNat, ← Bool.bne_eq_xor]
  rfl

/-- SHR: the last bit out is bit c - 1, and OF is the sign of the operand (R208, R209). -/
theorem shrOp_eq (e : Word) : shrOp a c e =
    (a >>> c, shiftFlags (a >>> c) c (decide (c ≤ w) && a.toNat.testBit (c - 1)) (a.toNat.testBit (w - 1)) e) := by
  rw [← msb_eq_testBit, BitVec.testBit_toNat]
  rfl

end

/-! Which flags a shift writes (R209, R210). -/

theorem shiftFlags_other {w : Nat} {x : BitVec w} {c : Nat} {cf f : Bool} {e : Word} {j : Nat}
    (h : otherBit [.cf, .pf, .zf, .sf, .of] j) : (shiftFlags x c cf f e).getLsbD j = e.getLsbD j := by
  have hcf : j ≠ Flag.pos .cf := h .cf (by simp)
  unfold shiftFlags
  rw [resultFlags_other (otherBit_mono h (by simp))]
  split
  · rw [setFlag_other (h .of (by simp)), setFlag_other hcf]
  · exact setFlag_other hcf

/-- What the flags are after a shift by c with the result x. -/
theorem shiftFlags_written {w : Nat} {x : BitVec w} {c : Nat} {cf f : Bool} {s t : State}
    (h : t.eflags = shiftFlags x c cf f s.eflags) :
    getFlag t.eflags .cf = cf ∧ getFlag t.eflags .of = (if c = 1 then f else getFlag s.eflags .of) ∧
    resultFlagsOf t w x.toNat ∧ flagsKept s t [.cf, .pf, .zf, .sf, .of] := by
  refine ⟨?_, ?_, resultFlagsOf_of_eflags h, fun k hk => ?_⟩
  · by_cases hc : c = 1 <;> simp [h, hc, shiftFlags, resultFlags, getFlag_setFlag]
  · by_cases hc : c = 1 <;> simp [h, hc, shiftFlags, resultFlags, getFlag_setFlag]
  · rw [h, shiftFlags_other hk]

/-! The shift step at the values of its operands (R205, R206, R211, R212). -/

theorem recordOf_shape (s : State) (i : Instr) : RecordShape (s.recordOf i) := record_shape s.codeMode i {}

/-- A shift has a general register or memory as its destination, and CL or an immediate as its count. -/
theorem shift_operands {r : Record} (hr : RecordShape r) (hop : r.op = .shl ∨ r.op = .shr) :
    dataOperand r.osz (r.operand 0) ∧ (r.operand 1).hasValue := by
  cases hr with
  | shift _ ho hd hc =>
    rw [operand_zero ho, operand_one ho]
    refine ⟨hd, ?_⟩
    obtain rfl | ⟨v, rfl⟩ := hc
    · trivial
    · trivial
  | alu x hop' _ _ _ => cases x <;> simp [hop', AluOp.opClass] at hop
  | incDec hop' _ _ | table hop' _ _ => obtain hop' | hop' := hop' <;> simp [hop'] at hop
  | push hop' _ _ _ | pushSeg _ hop' _ _ | pop hop' _ _ _ | popSeg _ hop' _ _ _ | moveFrom hop' _ _ _
  | moveSeg _ hop' _ _ _ | moveControl _ hop' _ _ _ => simp [hop'] at hop

/-- The shift step at the values of its operands: nothing for a masked count of zero, else a store and the flags. -/
theorem shiftStep_eq (f : (w : Nat) → BitVec w → Nat → Word → BitVec w × Word) (s : State) {r : Record}
    (hd : dataOperand r.osz (r.operand 0)) (hc : (r.operand 1).hasValue) :
    shiftStep f r s =
      if s.sourceNat r 1 1 % 32 = 0 then .ok s
      else (s.store r.seg (r.operand 0) (bytesOf r.osz.bytes
        (f _ (s.sourceWord r 0) (s.sourceNat r 1 1 % 32) s.eflags).1.toNat)).map
          fun u => { u with eflags := (f _ (s.sourceWord r 0) (s.sourceNat r 1 1 % 32) s.eflags).2 } := by
  obtain ⟨a, ha, hword⟩ := evaluate_sourceWord s r (hasValue_of_data hd)
  obtain ⟨v, hv, -, hvalue⟩ := evaluate_value s r hc 1
  rw [shiftStep, ha, hv]
  simp only [bind, Except.bind, hword, shiftCount_valueOf, hvalue]
  split
  · rfl
  · cases s.store r.seg (r.operand 0) _ <;> rfl

section
variable {f : (w : Nat) → BitVec w → Nat → Word → BitVec w × Word} {s : State} {i : Instr}

/-- A shift by 1 to 31 delivers its result x and takes its flags from x, the last bit out and the overflow. -/
theorem completesWith_shift (hop : (s.recordOf i).op = .shl ∨ (s.recordOf i).op = .shr)
    (hrun : recordStep (s.recordOf i) s = shiftStep f (s.recordOf i) s)
    (hcount : s.sourceNat (s.recordOf i) 1 1 % 32 ≠ 0) {x : BitVec (s.recordOf i).osz.bits} {cf o : Bool}
    (hx : f _ (s.sourceWord (s.recordOf i) 0) (s.sourceNat (s.recordOf i) 1 1 % 32) s.eflags =
      (x, shiftFlags x (s.sourceNat (s.recordOf i) 1 1 % 32) cf o s.eflags)) :
    completesWith i s fun t =>
      delivers s (s.recordOf i) (s.recordOf i).osz.bytes x.toNat t ∧
      getFlag t.eflags .cf = cf ∧
      getFlag t.eflags .of = (if s.sourceNat (s.recordOf i) 1 1 % 32 = 1 then o else getFlag s.eflags .of) ∧
      resultFlagsOf t (s.recordOf i).osz.bits x.toNat ∧ flagsKept s t [.cf, .pf, .zf, .sf, .of] ∧
      systemKept s t := by
  obtain ⟨hd, hc⟩ := shift_operands (recordOf_shape s i) hop
  have hstored := completesWith_result (x := x)
    (e := shiftFlags x (s.sourceNat (s.recordOf i) 1 1 % 32) cf o s.eflags) hd fun u hu => by
      rw [hrun, shiftStep_eq f s hd hc, if_neg hcount, hx, hu]
      rfl
  refine completesWith_imp hstored fun t ht => ?_
  obtain ⟨hdelivers, hflags, hsystem⟩ := ht
  obtain ⟨hcf, hof, hresult, hkept⟩ := shiftFlags_written hflags
  exact ⟨hdelivers, hcf, hof, hresult, hkept, hsystem⟩

theorem shift_sourceWord (hop : (s.recordOf i).op = .shl ∨ (s.recordOf i).op = .shr) :
    (s.sourceWord (s.recordOf i) 0).toNat = s.sourceNat (s.recordOf i) 0 (s.recordOf i).osz.bytes :=
  sourceWord_toNat s _ (hasValue_of_data (shift_operands (recordOf_shape s i) hop).1)

end

/-- A shift record runs the shift step, with the operation of its class (R211, R212). -/
theorem recordStep_shift {r : Record} (hop : r.op = .shl ∨ r.op = .shr) (s : State) :
    ∃ f, recordStep r s = shiftStep f r s := by
  obtain hop | hop := hop
  · exact ⟨fun _ a c e => shlOp a c e, by rw [recordStep, hop]⟩
  · exact ⟨fun _ a c e => shrOp a c e, by rw [recordStep, hop]⟩

/-! SHL and SHR (R206, R211, R212). -/

/-- Settles O38: the result, the last bit out and the overflow of `shlOp`, as numbers. -/
theorem shiftLeft : Obligations.ShiftLeft := by
  intro s i hop hcount r n w a c v cf
  have ha : (s.sourceWord r 0).toNat = a := shift_sourceWord (.inl hop)
  have hrun : recordStep r s = shiftStep (fun _ a c e => shlOp a c e) r s := by rw [recordStep, hop]
  have h := completesWith_shift (.inl hop) hrun hcount (shlOp_eq _ _ _)
  rw [BitVec.toNat_shiftLeft, Nat.shiftLeft_eq, ha] at h
  exact h

/-- Settles O39: the result, the last bit out and the overflow of `shrOp`, as numbers. -/
theorem shiftRight : Obligations.ShiftRight := by
  intro s i hop hcount r n w a c v
  have ha : (s.sourceWord r 0).toNat = a := shift_sourceWord (.inr hop)
  have hrun : recordStep r s = shiftStep (fun _ a c e => shrOp a c e) r s := by rw [recordStep, hop]
  have h := completesWith_shift (.inr hop) hrun hcount (shrOp_eq _ _ _)
  rw [BitVec.toNat_ushiftRight, Nat.shiftRight_eq_div_pow, ha] at h
  exact h

/-- Settles O40: the step returns the state it was given, and only the advance of EIP follows. -/
theorem shiftByZero : Obligations.ShiftByZero := by
  intro s i hop hcount
  obtain ⟨f, hrun⟩ := recordStep_shift hop s
  obtain ⟨hd, hc⟩ := shift_operands (recordOf_shape s i) hop
  have hstep : recordStep (s.recordOf i) s = .ok s := by rw [hrun, shiftStep_eq f s hd hc, if_pos hcount]
  exact exec_of_recordStep hstep rfl rfl

end Sys2Proof.Machine
end

section
/-! The stack: its pointer and its two primitives as numbers, and PUSH and POP of every form (45_stack.md R215 to
R226). -/

namespace Sys2Proof.Machine

/-! The stack pointer as a number (R215). -/

section
variable (s : State)

theorem stackModulus_eq : s.stackModulus = addressModulus s.seg.ss.addressSize := rfl

theorem stackModulus_cases : s.stackModulus = 2 ^ 16 ∨ s.stackModulus = 2 ^ 32 := by
  rw [stackModulus_eq]
  cases s.seg.ss.addressSize with
  | s16 => exact .inl rfl
  | s32 => exact .inr rfl

theorem stackTop_lt : s.stackTop < s.stackModulus := by
  apply Nat.mod_lt
  obtain hm | hm := stackModulus_cases s <;> omega

theorem topBelow_lt (n : Nat) : s.topBelow n < s.stackModulus := Nat.mod_lt _ (Nat.zero_lt_of_lt (stackTop_lt s))

theorem topAbove_lt (n : Nat) : s.topAbove n < s.stackModulus := Nat.mod_lt _ (Nat.zero_lt_of_lt (stackTop_lt s))

theorem stackPointer_toNat : s.stackPointer.toNat = s.stackTop := by
  unfold State.stackPointer State.stackTop State.stackModulus
  cases s.seg.ss.addressSize with
  | s16 => exact toNat_and_low16 s.gpr.esp
  | s32 => exact (Nat.mod_eq_of_lt s.gpr.esp.isLt).symm

theorem stackPointerPlus_toNat (d : Word) :
    (s.stackPointerPlus d).toNat = (s.stackTop + d.toNat) % s.stackModulus := by
  unfold State.stackPointerPlus State.stackTop State.stackModulus
  cases s.seg.ss.addressSize with
  | s16 =>
    change ((s.gpr.esp + d) &&& 0x0000FFFF#32).toNat = _
    rw [toNat_and_low16, BitVec.toNat_add, Nat.mod_mod_of_dvd _ (by decide)]
    exact (Nat.mod_add_mod _ _ _).symm
  | s32 => exact (BitVec.toNat_add _ _).trans (Nat.mod_add_mod _ _ _).symm

theorem stackPointerPlus_above (n : Nat) : (s.stackPointerPlus (BitVec.ofNat 32 n)).toNat = s.topAbove n := by
  rw [stackPointerPlus_toNat, BitVec.toNat_ofNat, State.topAbove]
  obtain hm | hm := stackModulus_cases s <;> rw [hm] <;> omega

/-- Adding the two's complement of n takes n off, for n of at most one turn of the smaller stack. -/
theorem stackPointerPlus_below {n : Nat} (hn : n ≤ 2 ^ 16) :
    (s.stackPointerPlus (-(BitVec.ofNat 32 n))).toNat = s.topBelow n := by
  rw [stackPointerPlus_toNat, BitVec.toNat_neg, BitVec.toNat_ofNat, State.topBelow]
  obtain hm | hm := stackModulus_cases s <;> rw [hm] <;> omega

/-- Setting the pointer writes SP or ESP and keeps the bits above it. -/
theorem setStackPointer_eq_withTop (t : Word) : s.setStackPointer t = s.withTop (t.toNat % s.stackModulus) := by
  unfold State.setStackPointer State.withTop State.stackModulus
  cases s.seg.ss.addressSize with
  | s16 =>
    have hesp : (s.gpr.esp.extractLsb' 16 16 ++ t.extractLsb' 0 16 : Word) =
        BitVec.ofNat 32 (s.gpr.esp.toNat / 2 ^ 16 * 2 ^ 16 + t.toNat % 2 ^ 16) := by
      apply BitVec.eq_of_toNat_eq
      rw [toNat_append_eq, toNat_extractLsb'_eq, toNat_extractLsb'_eq, BitVec.toNat_ofNat]
      omega
    exact congrArg (fun v => { s with gpr := s.gpr.set .esp v }) hesp
  | s32 =>
    have hesp : t = BitVec.ofNat 32 (s.gpr.esp.toNat / 2 ^ 32 * 2 ^ 32 + t.toNat % 2 ^ 32) := by
      apply BitVec.eq_of_toNat_eq
      rw [BitVec.toNat_ofNat]
      omega
    exact congrArg (fun v => { s with gpr := s.gpr.set .esp v }) hesp

/-- The address of a stack access is that of its wrapped offset (R71). -/
theorem stack_linear (t : Word) :
    s.seg.ss.linear t s.seg.ss.addressSize = s.stackAddress (t.toNat % s.stackModulus) := by
  apply BitVec.eq_of_toNat_eq
  rw [linear_toNat, ← stackModulus_eq, State.stackAddress, BitVec.toNat_add, BitVec.toNat_ofNat, Nat.add_mod_mod]

/-! Moving the pointer and moving it back (R219). -/

variable {s} {top : Nat}

theorem stackTop_withTop (h : top < s.stackModulus) : (s.withTop top).stackTop = top := by
  change (BitVec.ofNat 32 (s.gpr.esp.toNat / s.stackModulus * s.stackModulus + top)).toNat % s.stackModulus = top
  rw [BitVec.toNat_ofNat]
  obtain hm | hm := stackModulus_cases s <;> rw [hm] at h ⊢ <;> omega

theorem withTop_withTop (h : top < s.stackModulus) (u : Nat) : (s.withTop top).withTop u = s.withTop u := by
  have hhigh : (BitVec.ofNat 32 (s.gpr.esp.toNat / s.stackModulus * s.stackModulus + top)).toNat / s.stackModulus =
      s.gpr.esp.toNat / s.stackModulus := by
    have hesp := s.gpr.esp.isLt
    rw [BitVec.toNat_ofNat]
    obtain hm | hm := stackModulus_cases s <;> rw [hm] at h ⊢ <;> omega
  exact congrArg
    (fun k => { s with gpr := { s.gpr with esp := BitVec.ofNat 32 (k * s.stackModulus + u) } }) hhigh

variable (s)

theorem withTop_stackTop : s.withTop s.stackTop = s := by
  have hesp : BitVec.ofNat 32 (s.gpr.esp.toNat / s.stackModulus * s.stackModulus + s.stackTop) = s.gpr.esp := by
    rw [State.stackTop, Nat.div_add_mod', BitVec.ofNat_toNat, BitVec.setWidth_eq]
  exact congrArg (fun v => { s with gpr := { s.gpr with esp := v } }) hesp

theorem topAbove_withTop_topBelow {n : Nat} (hn : n ≤ 2 ^ 16) :
    (s.withTop (s.topBelow n)).topAbove n = s.stackTop := by
  have hlt := stackTop_lt s
  have htop : (s.withTop (s.topBelow n)).topAbove n = (s.topBelow n + n) % s.stackModulus :=
    congrArg (fun k => (k + n) % s.stackModulus) (stackTop_withTop (topBelow_lt s n))
  rw [htop, State.topBelow]
  obtain hm | hm := stackModulus_cases s <;> rw [hm] at hlt ⊢ <;> omega

/-! The primitives (R216, R217). -/

theorem push_eq {n : Nat} (hn : n ≤ 2 ^ 16) {v : List Byte} (hv : v.length = n) : s.push n v =
    { s.withTop (s.topBelow n) with mem := s.mem.writeFrom (s.stackAddress (s.topBelow n)) v } := by
  have htop : s.topBelow n % s.stackModulus = s.topBelow n := Nat.mod_eq_of_lt (topBelow_lt s n)
  rw [State.push, setStackPointer_eq_withTop, segWrite, stack_linear, resize_eq_self hv]
  change State.withTop _ ((s.stackPointerPlus _).toNat % s.stackModulus) = _
  rw [stackPointerPlus_below s hn, htop]
  rfl

theorem pop_eq (n : Nat) : s.pop n =
    (s.mem.readFrom (s.stackAddress s.stackTop) n, s.withTop (s.topAbove n)) := by
  rw [State.pop, setStackPointer_eq_withTop, segRead, stack_linear, stackPointer_toNat, stackPointerPlus_above,
    Nat.mod_eq_of_lt (stackTop_lt s), Nat.mod_eq_of_lt (topAbove_lt s n)]

end

/-- Settles O44: the bytes are read where they were written, and the pointer comes back to where it was. -/
theorem popAfterPush : Obligations.PopAfterPush := by
  intro s n v hn hv
  have hsmall : n ≤ 2 ^ 16 := by omega
  have htop : (s.withTop (s.topBelow n)).stackTop = s.topBelow n := stackTop_withTop (topBelow_lt s n)
  rw [pop_eq, push_eq s hsmall hv]
  constructor
  · change (s.mem.writeFrom _ v).readFrom (s.stackAddress (s.withTop (s.topBelow n)).stackTop) n = v
    rw [htop, ← hv]
    exact readFrom_writeFrom _ _ _ (by omega)
  · have hback : (s.withTop (s.topBelow n)).withTop ((s.withTop (s.topBelow n)).topAbove n) = s := by
      rw [topAbove_withTop_topBelow s hsmall, withTop_withTop (topBelow_lt s n), withTop_stackTop]
    exact congrArg (fun u : State => { u with mem := s.mem.writeFrom (s.stackAddress (s.topBelow n)) v }) hback

/-! The operands of PUSH and POP (R220 to R225). -/

section
variable {r : Record}

/-- PUSH reads a register, memory or an immediate. -/
theorem push_operand (hr : RecordShape r) (hop : r.op = .push) : (r.operand 0).hasValue := by
  cases hr with
  | push _ ho hs _ =>
    rw [operand_zero ho]
    exact hasValue_of_source (.inl hs)
  | pushSeg x _ ho _ =>
    rw [operand_zero ho]
    trivial
  | alu x hop' _ _ _ => cases x <;> cases hop.symm.trans hop'
  | incDec hop' _ _ | shift hop' _ _ _ | table hop' _ _ => rw [hop] at hop'; cases hop' <;> contradiction
  | pop hop' _ _ _ | popSeg _ hop' _ _ _ | moveFrom hop' _ _ _ | moveSeg _ hop' _ _ _
  | moveControl _ hop' _ _ _ => cases hop.symm.trans hop'

/-- POP writes a general register or memory, or loads a segment register other than CS. -/
theorem pop_operand (hr : RecordShape r) (hop : r.op = .pop) :
    dataOperand r.osz (r.operand 0) ∨ ∃ x, x ≠ .cs ∧ r.loads x := by
  cases hr with
  | pop _ ho hd _ =>
    rw [operand_zero ho]
    exact .inl hd
  | popSeg x _ ho hx _ => exact .inr ⟨x, hx, .inr hop, operand_zero ho⟩
  | alu x hop' _ _ _ => cases x <;> cases hop.symm.trans hop'
  | incDec hop' _ _ | shift hop' _ _ _ | table hop' _ _ => rw [hop] at hop'; cases hop' <;> contradiction
  | push hop' _ _ _ | pushSeg _ hop' _ _ | moveFrom hop' _ _ _ | moveSeg _ hop' _ _ _
  | moveControl _ hop' _ _ _ => cases hop.symm.trans hop'

theorem loads_unique {x y : Sreg} (hx : r.loads x) (hy : r.loads y) : x = y :=
  sreg_id_inj (Operand.reg.inj (hx.2.symm.trans hy.2))

/-- A POP that loads a segment register does not load CS (R153). -/
theorem pop_loads_ne_cs (hr : RecordShape r) (hop : r.op = .pop) {x : Sreg} (hload : r.loads x) : x ≠ .cs := by
  obtain hd | ⟨y, hy, hload'⟩ := pop_operand hr hop
  · exact absurd hload (not_loads_of_data hd)
  · rwa [loads_unique hload hload']

end

theorem width_bytes_le (w : Width) : w.bytes ≤ 4 := by cases w <;> decide

/-! PUSH and POP (R220 to R226). -/

/-- Settles O41: the source is evaluated before the push, which writes its bytes and the pointer. -/
theorem pushStores : Obligations.PushStores := by
  intro s i hop r n top
  have hn : n ≤ 4 := width_bytes_le r.osz
  obtain ⟨v, hv, hlen, hvalue⟩ := evaluate_value s r (push_operand (recordOf_shape s i) hop) n
  have hstep : recordStep r s = .ok { s.withTop top with mem := s.mem.writeFrom (s.stackAddress top) v } := by
    rw [recordStep, hop, ← push_eq s (hn.trans (by decide)) hlen]
    change pushStep r s = _
    rw [pushStep, hv]
    rfl
  refine ⟨_, exec_of_recordStep hstep rfl rfl, rfl, fun k hk => ?_, fun x hx => ?_, rfl, rfl,
    ⟨rfl, rfl, rfl, rfl, rfl, rfl, rfl, rfl⟩, rfl, rfl⟩
  · have hkv : k < v.length := hk.trans_eq hlen.symm
    rw [← hvalue, ofNat_leNat_div_pow hkv]
    exact read_writeFrom s.mem _ v (by omega) hkv
  · exact read_writeFrom_of_not_mem _ _ x v fun k hk => hx k (hk.trans_eq hlen)

/-- A POP stores the bytes at the top in the state whose pointer has gone up (R224). -/
theorem recordStep_pop (s : State) {r : Record} (hop : r.op = .pop) : recordStep r s =
    (s.withTop (s.topAbove r.osz.bytes)).store r.seg (r.operand 0)
      (s.mem.readFrom (s.stackAddress s.stackTop) r.osz.bytes) := by
  rw [recordStep, hop]
  change popStep r s = _
  rw [popStep, pop_eq]

/-- Settles O42: the store is made in the state whose pointer has moved, and delivers what was at the top. -/
theorem popStores : Obligations.PopStores := by
  intro s i hop hload r n
  have hd : dataOperand r.osz (r.operand 0) :=
    (pop_operand (recordOf_shape s i) hop).resolve_right fun ⟨x, _, hx⟩ => hload x hx
  have hlen : (s.mem.readFrom (s.stackAddress s.stackTop) n).length = n := readFrom_length _ _ _
  have hsmall : n ≤ 2 ^ 32 := (width_bytes_le r.osz).trans (by decide)
  obtain ⟨gpr, mem, hstore, hdelivers⟩ :=
    store_delivers (s.withTop (s.topAbove n)) hd (hlen.trans_le hsmall) fun _ _ => hlen
  rw [hlen, leNat_readFrom] at hdelivers
  exact ⟨_, exec_of_recordStep ((recordStep_pop s hop).trans hstore) rfl rfl, rfl,
    delivers_of_same hd hdelivers rfl rfl, rfl, ⟨rfl, rfl, rfl, rfl, rfl, rfl, rfl, rfl⟩, rfl, rfl⟩

/-- A store to a segment register is the load of the low word of the value (R29, R225). -/
theorem store_sreg_eq (s : State) (g : Option Sreg) (x : Sreg) (v : OperandValue) :
    s.store g (.reg x.id) v = s.loadSegment x (BitVec.ofNat 16 (leNat v % 2 ^ 16)) := by
  have hlow : BitVec.ofNat 16 (leNat v % 2 ^ 16) = BitVec.ofNat 16 (leNat v) := by
    apply BitVec.eq_of_toNat_eq
    rw [BitVec.toNat_ofNat, BitVec.toNat_ofNat, Nat.mod_mod]
  rw [store_reg, ofId_sreg, hlow]
  rfl

/-- Settles O43: the load is made in the state whose pointer has moved, which resolves the selector as before. -/
theorem popLoadsSegment : Obligations.PopLoadsSegment := by
  intro s i x hop hload hfail n
  let sel := s.mem.numberAt (s.stackAddress s.stackTop) n % 2 ^ 16
  have hcs : x ≠ .cs := pop_loads_ne_cs (recordOf_shape s i) hop hload
  have hok : ¬ (s.pe = true ∧ sel.testBit 2 = true) := by
    rintro ⟨hpe, hti⟩
    have hmov : ¬ (s.recordOf i).op = .mov := by simp [hop]
    exact hfail ⟨⟨x, hload⟩, hpe, by rwa [State.selectorOf, if_neg hmov]⟩
  have hd : (s.recordOf i).operand 0 = .reg x.id := hload.2
  have hstep : recordStep (s.recordOf i) s = (s.withTop (s.topAbove n)).loadSegment x (BitVec.ofNat 16 sel) := by
    rw [recordStep_pop s hop, hd, store_sreg_eq, leNat_readFrom]
  have hloaded := loadSegment_ofNat (s := s.withTop (s.topAbove n)) x (Nat.mod_lt _ (by decide)) hok
  have hcs' : (s.seg.set x (s.segmentFor sel)).cs = s.seg.cs := seg_get_set_ne s.seg _ hcs.symm
  exact ⟨_, exec_of_recordStep (hstep.trans hloaded) rfl hcs', rfl, seg_get_set_same _ _ _,
    fun y hy => seg_get_set_ne _ _ hy, hold_or_ss s.holdIRQ x, rfl, rfl, ⟨rfl, rfl, rfl, rfl, rfl, rfl, rfl, rfl⟩,
    fun _ => rfl⟩

end Sys2Proof.Machine
end

section
/-! The repeat-prefix controller, and a repeated string instruction run to its end (46_repeat.md R230 to R232). -/

namespace Sys2Proof.Machine

/-! The counter and its write-back (R231). -/

/-- The counter is read through the view that the address size names: id 10 for CX, id 18 for ECX. -/
theorem repCount_eq_registerValue (s : State) (z : Size) : s.repCount z = s.registerValue (Gpr.ecx.id z) := by
  cases z with
  | s16 => exact (registerValue_of_view (ofId_gpr16 .ecx)).symm
  | s32 => exact (registerValue_of_view (ofId_gpr32 .ecx)).symm

theorem repCount_congr {s t : State} (z : Size) (h : t.gpr.ecx = s.gpr.ecx) : t.repCount z = s.repCount z := by
  cases z with
  | s16 => exact congrArg (fun v : Word => (v.setWidth 16).toNat) h
  | s32 => exact congrArg BitVec.toNat h

/-- What is written back is read again if it is no more than the counter was, for then it fits the view. -/
theorem repCount_setRepCount {s : State} {z : Size} {n : Nat} (h : n ≤ s.repCount z) :
    (s.setRepCount z n).repCount z = n := by
  cases z with
  | s16 =>
    have hn : n < 2 ^ 16 := h.trans_lt (s.gpr.get16 .ecx).isLt
    simpa [State.repCount, State.setRepCount] using hn
  | s32 =>
    have hn : n < 2 ^ 32 := h.trans_lt (s.gpr.get .ecx).isLt
    simpa [State.repCount, State.setRepCount] using hn

/-- The write-back changes only the view of the counter; CX leaves ECX[31:16]. -/
theorem gprKept_setRepCount (s : State) (z : Size) (n : Nat) : gprKept s (s.setRepCount z n) (Gpr.ecx.id z) := by
  cases z with
  | s16 => exact gprKept_set16 s .ecx _
  | s32 => exact gprKept_set s .ecx _

theorem setRepCount_eq_withGpr (s : State) (z : Size) (n : Nat) :
    s.setRepCount z n = { s with gpr := (s.setRepCount z n).gpr } := by
  cases z <;> rfl

@[simp] theorem setRepCount_eip (s : State) (z : Size) (n : Nat) : (s.setRepCount z n).eip = s.eip := by
  rw [setRepCount_eq_withGpr]

@[simp] theorem setRepCount_seg (s : State) (z : Size) (n : Nat) : (s.setRepCount z n).seg = s.seg := by
  rw [setRepCount_eq_withGpr]

/-! `REPCheck` (R230). -/

/-- REP and REPNE are one case of `REPCheck`. -/
theorem repCheck_of_ne_absent {p : Rep} (hp : p ≠ .absent) (z : Size) (s : State) : repCheck p z s =
    if s.repCount z = 0 then ⟨s, false, some 5⟩ else ⟨s.setRepCount z (s.repCount z - 1), true, some 7⟩ := by
  cases p with
  | absent => exact absurd rfl hp
  | rep | repne => rfl

theorem repCheck_of_zero {p : Rep} {z : Size} {s : State} (hp : p ≠ .absent) (h : s.repCount z = 0) :
    repCheck p z s = ⟨s, false, some 5⟩ := (repCheck_of_ne_absent hp z s).trans (if_pos h)

theorem repCheck_of_ne_zero {p : Rep} {z : Size} {s : State} (hp : p ≠ .absent) (h : s.repCount z ≠ 0) :
    repCheck p z s = ⟨s.setRepCount z (s.repCount z - 1), true, some 7⟩ :=
  (repCheck_of_ne_absent hp z s).trans (if_neg h)

/-- `REPCheck` behind REP or REPNE, with the register named by its id. -/
theorem repCheck_spec (s : State) (z : Size) {p : Rep} (hp : p ≠ .absent) :
    (s.registerValue (Gpr.ecx.id z) = 0 → repCheck p z s = ⟨s, false, some 5⟩) ∧
    (s.registerValue (Gpr.ecx.id z) ≠ 0 →
      (repCheck p z s).goOn = true ∧ (repCheck p z s).cycles = some 7 ∧
      (repCheck p z s).state.registerValue (Gpr.ecx.id z) = s.registerValue (Gpr.ecx.id z) - 1 ∧
      gprKept s (repCheck p z s).state (Gpr.ecx.id z) ∧
      (repCheck p z s).state = { s with gpr := (repCheck p z s).state.gpr }) := by
  simp only [← repCount_eq_registerValue]
  refine ⟨repCheck_of_zero hp, fun h => ?_⟩
  rw [repCheck_of_ne_zero hp h]
  exact ⟨rfl, rfl, repCount_setRepCount (Nat.sub_le _ _), gprKept_setRepCount s z _, setRepCount_eq_withGpr s z _⟩

/-- Settles O58: the ids 10 and 18 are those of CX and ECX. -/
theorem repeatCheck : Obligations.RepeatCheck := by
  intro s z
  refine ⟨rfl, fun p hp => ?_⟩
  cases z with
  | s16 => exact repCheck_spec s .s16 hp
  | s32 => exact repCheck_spec s .s32 hp

/-! A repeated string instruction (R232). -/

/-- The body neither touches the counter, EIP and CS nor ends the loop. -/
def KeepsLooping (body : State → State × Bool) : Prop :=
  ∀ u : State, (body u).1.gpr.ecx = u.gpr.ecx ∧ (body u).1.eip = u.eip ∧ (body u).1.seg.cs = u.seg.cs ∧
    (body u).2 = false

/-- The counter is 0: the step goes past the instruction and does not run the body. -/
theorem stringStep_of_zero {body : State → State × Bool} {r : Record} {s : State} (hr : r.rep ≠ .absent)
    (h : s.repCount r.asz = 0) : stringStep body r s = (s.advance r.len, some 5) := by
  simp [stringStep, repCheck_of_zero hr h]

/-- The counter is not 0: the step runs the body with the counter one lower and stays at the instruction. -/
theorem stringStep_of_ne_zero {body : State → State × Bool} {r : Record} {s : State} (hbody : KeepsLooping body)
    (hr : r.rep ≠ .absent) (h : s.repCount r.asz ≠ 0) :
    stringStep body r s = ((body (s.setRepCount r.asz (s.repCount r.asz - 1))).1, some 7) := by
  obtain ⟨-, -, -, hgoes⟩ := hbody (s.setRepCount r.asz (s.repCount r.asz - 1))
  simp [stringStep, repCheck_of_ne_zero hr h, hr, hgoes]

/-- `t` is at the instruction of `s`, with `n` iterations to go. -/
def AtIteration (s : State) (z : Size) (n : Nat) (t : State) : Prop :=
  t.eip = s.eip ∧ t.seg.cs = s.seg.cs ∧ t.repCount z = n

theorem stringStep_atIteration {body : State → State × Bool} {r : Record} {s t : State} {n : Nat}
    (hbody : KeepsLooping body) (hr : r.rep ≠ .absent) (ht : AtIteration s r.asz (n + 1) t) :
    AtIteration s r.asz n (stringStep body r t).1 := by
  obtain ⟨heip, hcs, hcount⟩ := ht
  rw [stringStep_of_ne_zero hbody hr (by omega), hcount, Nat.add_sub_cancel]
  obtain ⟨hecx', heip', hcs', -⟩ := hbody (t.setRepCount r.asz n)
  refine ⟨?_, ?_, ?_⟩
  · rw [heip', setRepCount_eip, heip]
  · rw [hcs', setRepCount_seg, hcs]
  · rw [repCount_congr _ hecx', repCount_setRepCount (by omega)]

/-- After `k` steps `k` iterations fewer are to go, by induction on `k`. -/
theorem iterate_stringStep_atIteration {body : State → State × Bool} {r : Record} {s : State}
    (hbody : KeepsLooping body) (hr : r.rep ≠ .absent) {k : Nat} (hk : k ≤ s.repCount r.asz) :
    AtIteration s r.asz (s.repCount r.asz - k) ((fun u => (stringStep body r u).1)^[k] s) := by
  induction k with
  | zero => exact ⟨rfl, rfl, rfl⟩
  | succ k ih =>
    have hleft : s.repCount r.asz - k = s.repCount r.asz - (k + 1) + 1 := by omega
    rw [Function.iterate_succ_apply']
    exact stringStep_atIteration hbody hr (hleft ▸ ih (by omega))

/-- Settles O59: as many steps as the counter says bring it to 0, and the step after those advances EIP. -/
theorem repeatedInstructionEnds : Obligations.RepeatedInstructionEnds := by
  intro body r s hr hbody one
  have hat {k : Nat} (hk : k ≤ s.repCount r.asz) : AtIteration s r.asz (s.repCount r.asz - k) (one^[k] s) :=
    iterate_stringStep_atIteration hbody hr hk
  refine ⟨fun k hk => ?_, ?_⟩
  · obtain ⟨heip, -, hcount⟩ := hat hk
    exact ⟨heip, hcount⟩
  · obtain ⟨heip, hcs, hcount⟩ := hat le_rfl
    rw [Nat.sub_self] at hcount
    rw [Function.iterate_succ_apply']
    change (stringStep body r _).1.eip = _
    rw [stringStep_of_zero hr hcount]
    exact advance_eip_eq heip hcs r.len

end Sys2Proof.Machine
end

section
/-! Which instructions complete, the one way an instruction fails, the mode, and the interrupt window (60_exceptions.md
R236 to R249). -/

namespace Sys2Proof.Machine

/-! Instructions that load no segment register complete (R236, R242). -/

/-- MOV to a control, debug or test register completes (42_operands_move.md R170, R172, R174). -/
theorem exec_moveControl_completes {s : State} {i : Instr} {id : Nat} {g : Gpr} (hop : (s.recordOf i).op = .mov)
    (hw : (s.recordOf i).osz = .w32) (ho : (s.recordOf i).opnd = [.reg id, .reg (g.id .s32)])
    (hid : (∃ c : Cr, id = c.id) ∨ (∃ n : Fin 8, id = 48 + n.val) ∨ ∃ n : Fin 8, id = 35 + n.val) :
    ∃ t, exec i s = .next t := by
  have hrange := control_id_range hid
  have hmov : recordStep (s.recordOf i) s = s.writeRegister id (s.gpr.get g).toNat := by
    rw [recordStep, hop]
    exact movStep_fromGpr s hw ho (by omega)
  rw [exec_eq_complete, hmov]
  obtain ⟨c, rfl⟩ | ⟨n, rfl⟩ | ⟨n, rfl⟩ := hid
  · rw [writeRegister_of_view (ofId_cr c)]
    exact ⟨_, rfl⟩
  · rw [writeRegister_of_view (ofId_dr n)]
    exact ⟨_, rfl⟩
  · rw [writeRegister_of_view (ofId_tr n)]
    exact ⟨_, rfl⟩

theorem completesWith_next {i : Instr} {s : State} {P : State → Prop} (h : completesWith i s P) :
    ∃ t, exec i s = .next t := by
  obtain ⟨t, ht, -⟩ := h
  exact ⟨t, ht⟩

/-- Every instruction but a segment load completes in every state, by the statement of its class. -/
theorem exec_completes_of_not_loads {s : State} {i : Instr} (hload : ∀ x, ¬ (s.recordOf i).loads x) :
    ∃ t, exec i s = .next t := by
  cases recordOf_shape s i with
  | alu x hop _ _ _ => exact completesWith_next (completesWith_alu hop rfl)
  | incDec hop _ _ =>
    obtain hinc | hdec := hop
    · exact completesWith_next (increment s i hinc)
    · exact completesWith_next (decrement s i hdec)
  | shift hop _ _ _ =>
    by_cases hcount : s.sourceNat (s.recordOf i) 1 1 % 32 = 0
    · exact ⟨_, shiftByZero s i hop hcount⟩
    · obtain hshl | hshr := hop
      · exact completesWith_next (shiftLeft s i hshl hcount)
      · exact completesWith_next (shiftRight s i hshr hcount)
  | push hop _ _ _ | pushSeg _ hop _ _ => exact completesWith_next (pushStores s i hop)
  | pop hop _ _ _ => exact completesWith_next (popStores s i hop hload)
  | moveFrom hop ho hd hs =>
    rw [← operand_zero ho] at hd
    have hmov : recordStep (s.recordOf i) s = movStep (s.recordOf i) s := by rw [recordStep, hop]
    obtain ⟨gpr, mem, hstep, -⟩ := movStep_delivers s hd (by rw [operand_one ho]; exact hasValue_of_source hs)
    exact ⟨_, exec_of_recordStep (hmov.trans hstep) rfl rfl⟩
  | moveControl g hop hw ho hid => exact exec_moveControl_completes hop hw ho hid
  | table hop ho hm =>
    obtain ⟨base, index, scale, disp, z, rfl⟩ := hm
    obtain ⟨hlgdt, hlidt⟩ := descriptorTableLoads s i base index scale disp z (operand_zero ho)
    exact hop.elim (fun h => ⟨_, hlgdt h⟩) fun h => ⟨_, hlidt h⟩
  | popSeg x hop ho _ _ => exact absurd ⟨.inr hop, operand_zero ho⟩ (hload x)
  | moveSeg x hop _ ho _ => exact absurd ⟨.inl hop, operand_zero ho⟩ (hload x)

/-! Segment loads fail by R147 alone (R238). -/

/-- R147 as an equivalence. -/
theorem loadSegment_error_iff {s : State} {x : Sreg} {sel : Half} {e : Fault} : s.loadSegment x sel = .error e ↔
    s.pe = true ∧ sel.getLsbD 2 = true ∧ e = .unsupportedFeature .ldtSelector sel := by
  refine ⟨fun h => resolve_error (loadSegment_error h), ?_⟩
  rintro ⟨hpe, hti, rfl⟩
  rw [State.loadSegment, resolve_ldt hpe hti]

/-- A MOV or POP to a segment register is a load of the record's selector, in a state of the same mode (R152, R225). -/
theorem recordStep_eq_loadSegment {s : State} {r : Record} {x : Sreg} (hr : RecordShape r) (hload : r.loads x) :
    ∃ u : State, u.cr = s.cr ∧ recordStep r s = u.loadSegment x (BitVec.ofNat 16 (s.selectorOf r)) := by
  obtain ⟨hop | hop, hd⟩ := hload
  · have hmov : recordStep r s = movStep r s := by rw [recordStep, hop]
    rw [State.selectorOf, if_pos hop, hmov]
    have hl : r.loads x := ⟨.inl hop, hd⟩
    exact ⟨s, rfl, movStep_sreg s hl (mov_sreg_source hr hop hl)⟩
  · have hne : r.op ≠ .mov := by simp [hop]
    have hid : r.operand 0 = .reg x.id := hd
    rw [State.selectorOf, if_neg hne, recordStep_pop s hop, hid, store_sreg_eq, leNat_readFrom]
    exact ⟨s.withTop (s.topAbove r.osz.bytes), rfl, rfl⟩

/-- Settles O46: an instruction that loads no segment register completes, and a load fails by R147. -/
theorem failureIsLdtSelectorLoad : Obligations.FailureIsLdtSelectorLoad := by
  intro s i e
  by_cases hload : ∃ x, (s.recordOf i).loads x
  · obtain ⟨x, hx⟩ := hload
    obtain ⟨u, hcr, hstep⟩ := recordStep_eq_loadSegment (s := s) (recordOf_shape s i) hx
    have hti : (BitVec.ofNat 16 (s.selectorOf (s.recordOf i))).getLsbD 2 =
        (s.selectorOf (s.recordOf i)).testBit 2 := BitVec.getLsbD_ofNat _ _ _
    rw [exec_eq_complete, complete_fault, hstep, loadSegment_error_iff, State.pe, hcr, hti]
    exact ⟨fun ⟨hpe, hbit, he⟩ => ⟨⟨⟨x, hx⟩, hpe, hbit⟩, he⟩, fun ⟨⟨_, hpe, hbit⟩, he⟩ => ⟨hpe, hbit, he⟩⟩
  · obtain ⟨t, ht⟩ := exec_completes_of_not_loads fun x hx => hload ⟨x, hx⟩
    rw [ht]
    exact ⟨nofun, fun ⟨⟨hx, _⟩, _⟩ => absurd hx hload⟩

/-- Settles O45: no instruction is refused, and the failure is the load's. -/
theorem everyRowCompletes : Obligations.EveryRowCompletes := by
  intro s i hok
  cases h : exec i s with
  | next t => exact ⟨t, rfl⟩
  | fault e => exact absurd ((failureIsLdtSelectorLoad s i e).1 h).1 hok
  | refused q => exact absurd h (exec_not_refused i s q)

/-! The mode (R249). -/

/-- A decoded record that writes CR0 is a MOV of a whole general register (R108, R170). -/
theorem cr0_write_shape {r : Record} (hr : RecordShape r) (hop : r.op = .mov) (hd : r.operand 0 = .reg Cr.cr0.id) :
    ∃ g : Gpr, r.osz = .w32 ∧ r.opnd = [.reg Cr.cr0.id, g.operand .s32] := by
  cases hr with
  | moveControl g _ hw ho _ =>
    rw [operand_zero ho] at hd
    exact ⟨g, hw, by rw [ho, hd]; rfl⟩
  | moveFrom _ ho hdata _ =>
    rw [← operand_zero ho, hd] at hdata
    exact absurd (dataOperand_reg hdata).2.1 (by decide)
  | moveSeg x _ _ ho _ =>
    rw [operand_zero ho] at hd
    exact absurd hd.symm (control_id_ne_sreg (.inl ⟨.cr0, rfl⟩) x)
  | alu x hop' _ _ _ => cases x <;> cases hop.symm.trans hop'
  | incDec hop' _ _ | shift hop' _ _ _ | table hop' _ _ => rw [hop] at hop'; cases hop' <;> contradiction
  | push hop' _ _ _ | pushSeg _ hop' _ _ | pop hop' _ _ _ | popSeg _ hop' _ _ _ => cases hop.symm.trans hop'

/-- A MOV to CR0 leaves its source there (R170). -/
theorem exec_cr0_write {s t : State} {i : Instr} (hop : (s.recordOf i).op = .mov)
    (hd : (s.recordOf i).operand 0 = .reg Cr.cr0.id) (h : exec i s = .next t) :
    t.cr.cr0 = BitVec.ofNat 32 (s.sourceNat (s.recordOf i) 1 4) := by
  obtain ⟨g, hw, ho⟩ := cr0_write_shape (recordOf_shape s i) hop hd
  have hsource : s.sourceNat (s.recordOf i) 1 4 = (s.gpr.get g).toNat := by
    rw [State.sourceNat, operand_one ho]
    change s.registerValue (g.id .s32) % 256 ^ 4 = _
    rw [registerValue_of_view (ofId_gpr32 g)]
    exact Nat.mod_eq_of_lt (s.gpr.get g).isLt
  have hstep : recordStep (s.recordOf i) s = s.writeRegister Cr.cr0.id (s.gpr.get g).toNat := by
    rw [recordStep, hop]
    exact movStep_fromGpr s hw ho (by decide)
  obtain ⟨u, hu, rfl⟩ := exec_next h
  rw [hsource]
  cases hstep.symm.trans hu
  rfl

/-- Settles O53: the register an instruction must write to change PE is CR0, and the boundary changes no register. -/
theorem modeChangesOnlyByMovCr0 : Obligations.ModeChangesOnlyByMovCr0 := by
  intro s t h hpe
  obtain ⟨-, rfl⟩ | ⟨i, hdec, hexec⟩ := runInstruction_next h
  · exact absurd rfl hpe
  · obtain ⟨hcr, -⟩ := systemStateWriters s.boundary t i hexec
    obtain ⟨hop, hd⟩ := hcr .cr0 fun he => hpe (congrArg (BitVec.getLsbD · 0) he)
    refine ⟨i, hdec, hop, hd, ?_⟩
    rw [State.pe, exec_cr0_write hop hd hexec, BitVec.getLsbD_ofNat]
    rfl

/-! The interrupt window (R245). -/

section
variable {s : State}

theorem window_held (hhold : s.holdIRQ = true) : s.window = .held := if_pos hhold

theorem window_enabled (hhold : s.holdIRQ = false) (hif : getFlag s.eflags .fIf = true) : s.window = .enabled := by
  simp [State.window, hhold, hif]

theorem window_nmiOnly (hhold : s.holdIRQ = false) (hif : getFlag s.eflags .fIf = false) : s.window = .nmiOnly := by
  simp [State.window, hhold, hif]

/-- Without a hold an NMI at least may be delivered. -/
theorem window_not_held (hhold : s.holdIRQ = false) : s.window = .enabled ∨ s.window = .nmiOnly := by
  cases hif : getFlag s.eflags .fIf with
  | true => exact .inl (window_enabled hhold hif)
  | false => exact .inr (window_nmiOnly hhold hif)

end

/-- Settles O54: by the window the state is at; where no hold is up the boundary changes nothing. -/
theorem interruptWindow : Obligations.InterruptWindow := by
  intro s v req
  refine ⟨fun hhold => ?_, fun hhold => ?_, fun hhold hif => ?_, fun hhold hif => ?_, fun hhold => ?_⟩
  · simp only [State.driverBoundary, window_held hhold]
    rfl
  · change s.driverBoundary (some .nmi) = s.deliver nmiVector
    obtain hw | hw := window_not_held hhold <;> simp only [State.driverBoundary, hw]
  · simp only [State.driverBoundary, window_enabled hhold hif]
  · simp only [State.driverBoundary, window_nmiOnly hhold hif, boundary_eq_self hhold]
  · obtain hw | hw := window_not_held hhold <;> simp only [State.driverBoundary, hw, boundary_eq_self hhold]

end Sys2Proof.Machine
end

section
/-! Real-mode interrupt delivery, and the return that reverses it (60_exceptions.md R248). -/

namespace Sys2Proof.Machine

/-! Bytes held and the number they stand for (20_memory.md R72, R74). -/

/-- The bytes of a number hold it once they are written. -/
theorem memHolds_writeFrom_bytesOf {t : State} {m : Memory} {la : Word} {n v : Nat} (hn : n ≤ 2 ^ 32)
    (ht : ∀ k, k < n → t.mem.read (la + BitVec.ofNat 32 k) =
      (m.writeFrom la (bytesOf n v)).read (la + BitVec.ofNat 32 k)) : memHolds t la n (v % 256 ^ n) := by
  intro k hk
  have hlen : (bytesOf n v).length = n := bytesOf_length n v
  have hk' : k < (bytesOf n v).length := hk.trans_eq hlen.symm
  rw [ht k hk, read_writeFrom m la _ (hlen.trans_le hn) hk', ← ofNat_leNat_div_pow hk', leNat_bytesOf]

/-- What the bytes at an address hold is the number read there. -/
theorem numberAt_of_memHolds {t : State} {la : Word} {n v : Nat} (h : memHolds t la n v) :
    t.mem.numberAt la n = v % 256 ^ n := by
  induction n with
  | zero => exact (Nat.mod_one v).symm
  | succ n ih =>
    have hbyte : t.mem.numberAt (la + BitVec.ofNat 32 n) 1 = v / 256 ^ n % 256 := by
      have hread := congrArg BitVec.toNat (h n n.lt_succ_self)
      rw [BitVec.toNat_ofNat] at hread
      rw [← leNat_readFrom]
      simpa [Memory.readFrom] using hread
    rw [numberAt_add, ih fun k hk => h k (hk.trans n.lt_succ_self), hbyte, Nat.pow_succ, Nat.mod_mul]

/-- The word read at an address, as a number. -/
theorem valueOf_readFrom_word (m : Memory) (la : Word) :
    valueOf 16 (m.readFrom la 2) = BitVec.ofNat 16 (m.numberAt la 2) := congrArg _ (leNat_readFrom m la 2)

/-! The three words of a frame on the stack (R215, R248). -/

section
variable (s : State)

theorem topBelow_withTop_topBelow {j n : Nat} (hj : j + n ≤ 2 ^ 16) :
    (s.withTop (s.topBelow j)).topBelow n = s.topBelow (j + n) := by
  have hlt := stackTop_lt s
  have htop : (s.withTop (s.topBelow j)).topBelow n = (s.topBelow j + s.stackModulus - n) % s.stackModulus :=
    congrArg (fun k => (k + s.stackModulus - n) % s.stackModulus) (stackTop_withTop (topBelow_lt s j))
  rw [htop, State.topBelow, State.topBelow]
  obtain hm | hm := stackModulus_cases s <;> rw [hm] at hlt ⊢ <;> omega

/-- The bytes of words at most 6 below the pointer lie at different addresses, whether or not the offset wraps. -/
theorem stackAddress_topBelow_inj {i j k l : Nat} (hi : 2 ≤ i) (hij : i ≤ j) (hj : j ≤ 6) (hk : k < 2)
    (hl : l < 2) (h : s.stackAddress (s.topBelow i) + BitVec.ofNat 32 k =
      s.stackAddress (s.topBelow j) + BitVec.ofNat 32 l) :
    k + j = l + i := by
  have hlt := stackTop_lt s
  have hsum := congrArg BitVec.toNat h
  simp only [State.stackAddress, State.topBelow, BitVec.toNat_add, BitVec.toNat_ofNat] at hsum
  obtain hm | hm := stackModulus_cases s <;> rw [hm] at hlt hsum <;> omega

end

/-! Delivery (R248, R254). -/

/-- The state with `j` bytes more on the stack, and this memory and these flags. -/
def State.pushed (s : State) (j : Nat) (m : Memory) (e : Word) : State :=
  { s.withTop (s.topBelow j) with mem := m, eflags := e }

/-- A further push writes below what is there. -/
theorem push_pushed (s : State) {j n : Nat} (hj : j + n ≤ 2 ^ 16) (m : Memory) (e : Word) {v : List Byte}
    (hv : v.length = n) :
    (s.pushed j m e).push n v = s.pushed (j + n) (m.writeFrom (s.stackAddress (s.topBelow (j + n))) v) e := by
  have htop : (s.pushed j m e).topBelow n = s.topBelow (j + n) := topBelow_withTop_topBelow s hj
  rw [push_eq _ (by omega) hv, htop]
  exact congrArg (fun u : State => { u with mem := m.writeFrom (s.stackAddress (s.topBelow (j + n))) v, eflags := e })
    (withTop_withTop (topBelow_lt s j) _)

/-- Memory once FLAGS, CS and IP are on the stack. -/
def State.frameMem (s : State) : Memory :=
  ((s.mem.writeFrom (s.stackAddress (s.topBelow 2)) (bytesOf 2 s.eflags.toNat)).writeFrom
    (s.stackAddress (s.topBelow 4)) (bytesOf 2 s.seg.cs.selector.toNat)).writeFrom
    (s.stackAddress (s.topBelow 6)) (bytesOf 2 s.eip.toNat)

/-- EFLAGS with IF, TF and AC clear. -/
def entryFlags (e : Word) : Word := setFlag (setFlag (setFlag e .fIf false) .tf false) .ac false

/-- The address of an entry of the real-mode vector table. -/
def State.vectorEntry (s : State) (v : Byte) : Word := s.idtr.base + BitVec.ofNat 32 (4 * v.toNat)

theorem vectorEntry_eq (s : State) (v : Byte) : s.idtr.base + 4 * v.setWidth 32 = s.vectorEntry v := by
  have hscaled : 4 * v.setWidth 32 = BitVec.ofNat 32 (4 * v.toNat) := by
    apply BitVec.eq_of_toNat_eq
    simp
  rw [State.vectorEntry, hscaled]

/-- A word zero-extended (R248: EIP from IP). -/
theorem setWidth_ofNat_word {n : Nat} (hn : n < 2 ^ 16) : (BitVec.ofNat 16 n).setWidth 32 = BitVec.ofNat 32 n := by
  apply BitVec.eq_of_toNat_eq
  rw [BitVec.toNat_setWidth, BitVec.toNat_ofNat, BitVec.toNat_ofNat]
  omega

/-- The state a real-mode delivery leaves. -/
def State.delivered (s : State) (v : Byte) : State :=
  { s.pushed 6 s.frameMem (entryFlags s.eflags) with
    seg := s.seg.set .cs (s.segmentFor (s.frameMem.numberAt (s.vectorEntry v + 2) 2))
    eip := BitVec.ofNat 32 (s.frameMem.numberAt (s.vectorEntry v) 2)
    halt := false }

/-- The first push of a delivery, FLAGS, after which IF, TF and AC are cleared. -/
def State.pushFlags (s : State) : State :=
  let s1 := s.push 2 (bytesOf 2 s.eflags.toNat)
  { s1 with eflags := entryFlags s1.eflags }

/-- The first half of `State.enterVector`: FLAGS, CS and IP are pushed. -/
def State.pushFrame (s : State) : State :=
  let s2 := s.pushFlags
  let s3 := s2.push 2 (bytesOf 2 s2.seg.cs.selector.toNat)
  s3.push 2 (bytesOf 2 s3.eip.toNat)

/-- The second half of `State.enterVector`: CS:IP are loaded from the entry of the vector. -/
def State.takeVector (s : State) (v : Byte) : Except Fault State :=
  match s.loadSegment .cs (valueOf 16 (s.mem.readFrom (s.idtr.base + 4 * v.setWidth 32 + 2) 2)) with
  | .error e => .error e
  | .ok t => .ok { t with eip := (valueOf 16 (s.mem.readFrom (s.idtr.base + 4 * v.setWidth 32) 2)).setWidth 32 }

theorem enterVector_eq (s : State) (v : Byte) : s.enterVector v = s.pushFrame.takeVector v := rfl

theorem pushFlags_eq (s : State) : s.pushFlags = s.pushed 2
    (s.mem.writeFrom (s.stackAddress (s.topBelow 2)) (bytesOf 2 s.eflags.toNat)) (entryFlags s.eflags) :=
  congrArg (fun u : State => { u with eflags := entryFlags u.eflags }) (push_eq s (by decide) (bytesOf_length 2 _))

theorem pushFrame_eq (s : State) : s.pushFrame = s.pushed 6 s.frameMem (entryFlags s.eflags) := by
  simp only [State.pushFrame, pushFlags_eq]
  rw [push_pushed s (by decide) _ _ (bytesOf_length 2 _), push_pushed s (by decide) _ _ (bytesOf_length 2 _)]
  rfl

/-- What a real-mode load gives does not hang on the state (41_segmentation.md R141). -/
theorem segmentFor_of_real {s t : State} (hs : s.pe = false) (ht : t.pe = false) (n : Nat) :
    t.segmentFor n = s.segmentFor n := by
  rw [State.pe] at hs ht
  rw [State.segmentFor, State.segmentFor, hs, ht]
  rfl

/-- A real-mode load of CS cannot fail, and writes CS alone. -/
theorem loadSegment_cs_real {s : State} (hreal : s.pe = false) {n : Nat} (hn : n < 2 ^ 16) :
    s.loadSegment .cs (BitVec.ofNat 16 n) = .ok { s with seg := s.seg.set .cs (s.segmentFor n) } := by
  rw [loadSegment_ofNat .cs hn (by simp [hreal]), show (Sreg.cs == .ss) = false from rfl, Bool.or_false]

theorem takeVector_eq {s : State} (hreal : s.pe = false) (v : Byte) : s.takeVector v = .ok { s with
    seg := s.seg.set .cs (s.segmentFor (s.mem.numberAt (s.vectorEntry v + 2) 2))
    eip := BitVec.ofNat 32 (s.mem.numberAt (s.vectorEntry v) 2) } := by
  rw [State.takeVector, vectorEntry_eq, valueOf_readFrom_word, valueOf_readFrom_word,
    loadSegment_cs_real hreal (numberAt_lt _ _ 2), setWidth_ofNat_word (numberAt_lt _ _ 2)]

theorem deliver_eq {s : State} (hreal : s.pe = false) (v : Byte) : s.deliver v = .next (s.delivered v) := by
  have hreal' : (s.pushed 6 s.frameMem (entryFlags s.eflags)).pe = false := hreal
  have hnot : ¬ s.pe = true := by simp [hreal]
  rw [State.deliver, if_neg hnot, enterVector_eq, pushFrame_eq, takeVector_eq hreal', segmentFor_of_real hreal hreal']
  rfl

/-! What a delivery leaves on the stack. -/

section
variable (s : State)

/-- A word of the frame is not touched by the words pushed later. -/
theorem read_writeFrom_later {i j : Nat} (hi : 2 ≤ i) (hij : i + 2 ≤ j) (hj : j ≤ 6) {k : Nat} (hk : k < 2)
    (m : Memory) (v : Nat) :
    (m.writeFrom (s.stackAddress (s.topBelow j)) (bytesOf 2 v)).read (s.stackAddress (s.topBelow i) + BitVec.ofNat 32 k) =
      m.read (s.stackAddress (s.topBelow i) + BitVec.ofNat 32 k) := by
  refine read_writeFrom_of_not_mem _ _ _ _ fun l hl h => ?_
  rw [bytesOf_length] at hl
  have hsum := stackAddress_topBelow_inj s hi (by omega) hj hk hl h
  omega

variable (t : State) (ht : t.mem = s.frameMem)
include ht

theorem frame_holds_flags : memHolds t (s.stackAddress (s.topBelow 2)) 2 (s.eflags.toNat % 2 ^ 16) :=
  memHolds_writeFrom_bytesOf (by decide) fun k hk => by
    rw [ht, State.frameMem, read_writeFrom_later s (by decide) (by decide) (by decide) hk,
      read_writeFrom_later s (by decide) (by decide) (by decide) hk]

theorem frame_holds_cs : memHolds t (s.stackAddress (s.topBelow 4)) 2 s.seg.cs.selector.toNat := by
  rw [← Nat.mod_eq_of_lt s.seg.cs.selector.isLt]
  exact memHolds_writeFrom_bytesOf (by decide) fun k hk => by
    rw [ht, State.frameMem, read_writeFrom_later s (by decide) (by decide) (by decide) hk]

theorem frame_holds_ip : memHolds t (s.stackAddress (s.topBelow 6)) 2 (s.eip.toNat % 2 ^ 16) :=
  memHolds_writeFrom_bytesOf (by decide) fun k _ => by rw [ht, State.frameMem]

/-- A delivery writes the six bytes of its frame and no other. -/
theorem frame_keeps {x : Word} (hx : ∀ j k, (j = 2 ∨ j = 4 ∨ j = 6) → k < 2 →
    x ≠ s.stackAddress (s.topBelow j) + BitVec.ofNat 32 k) : t.mem.read x = s.mem.read x := by
  have hword {j : Nat} (hj : j = 2 ∨ j = 4 ∨ j = 6) (m : Memory) (v : Nat) :
      (m.writeFrom (s.stackAddress (s.topBelow j)) (bytesOf 2 v)).read x = m.read x :=
    read_writeFrom_of_not_mem _ _ _ _ fun k hk => hx j k hj (hk.trans_eq (bytesOf_length 2 v))
  rw [ht, State.frameMem, hword (by decide), hword (by decide), hword (by decide)]

end

theorem entryFlags_other {e : Word} {k : Nat} (hk : ∀ f ∈ [Flag.fIf, .tf, .ac], k ≠ f.pos) :
    (entryFlags e).getLsbD k = e.getLsbD k := by
  rw [entryFlags, setFlag_other (hk .ac (by simp)), setFlag_other (hk .tf (by simp)), setFlag_other (hk .fIf (by simp))]

/-- Settles O56: the delivered state field by field. -/
theorem realModeDelivery : Obligations.RealModeDelivery := by
  intro s v hreal
  have hcleared : getFlag (entryFlags s.eflags) .fIf = false ∧ getFlag (entryFlags s.eflags) .tf = false ∧
      getFlag (entryFlags s.eflags) .ac = false := by simp [entryFlags, getFlag_setFlag]
  obtain ⟨hif, htf, hac⟩ := hcleared
  exact ⟨s.delivered v, deliver_eq hreal v, rfl, rfl, fun x hx => seg_get_set_ne s.seg _ hx,
    frame_holds_flags s _ rfl, frame_holds_cs s _ rfl, frame_holds_ip s _ rfl, fun x hx => frame_keeps s _ rfl hx, rfl,
    hif, htf, hac, fun k hk => entryFlags_other hk, rfl, rfl, rfl, rfl, rfl, rfl, rfl, rfl, rfl⟩

/-! The return (R248). -/

/-- A further pop reads above what is popped, and moves the pointer on. -/
theorem pop_withTop_topAbove (s : State) (j n : Nat) : (s.withTop (s.topAbove j)).pop n =
    (s.mem.readFrom (s.stackAddress (s.topAbove j)) n, s.withTop (s.topAbove (j + n))) := by
  have htop : (s.withTop (s.topAbove j)).stackTop = s.topAbove j := stackTop_withTop (topAbove_lt s j)
  have habove : (s.withTop (s.topAbove j)).topAbove n = s.topAbove (j + n) := by
    change ((s.withTop (s.topAbove j)).stackTop + n) % s.stackModulus = _
    rw [htop, State.topAbove, Nat.mod_add_mod, Nat.add_assoc]
    rfl
  rw [pop_eq, htop, habove, withTop_withTop (topAbove_lt s j)]
  rfl

/-- The state a real-mode return leaves. -/
def State.returned (s : State) : State :=
  { s.withTop (s.topAbove 6) with
    eip := BitVec.ofNat 32 (s.mem.numberAt (s.stackAddress s.stackTop) 2)
    seg := s.seg.set .cs (s.segmentFor (s.mem.numberAt (s.stackAddress (s.topAbove 2)) 2))
    eflags := eflagsWrite (s.eflags.extractLsb' 16 16 ++
      BitVec.ofNat 16 (s.mem.numberAt (s.stackAddress (s.topAbove 4)) 2)) }

theorem leaveVector_eq {s : State} (hreal : s.pe = false) : s.leaveVector = .ok s.returned := by
  have hreal' : (s.withTop (s.topAbove 6)).pe = false := hreal
  simp only [State.leaveVector, pop_eq s, pop_withTop_topAbove, Nat.reduceAdd, valueOf_readFrom_word,
    loadSegment_cs_real hreal' (numberAt_lt _ _ 2), segmentFor_of_real hreal hreal',
    setWidth_ofNat_word (numberAt_lt _ _ 2)]
  rfl

/-! The return from a delivery. -/

section
variable (s : State) (v : Byte)

theorem stackTop_delivered : (s.delivered v).stackTop = s.topBelow 6 := stackTop_withTop (topBelow_lt s 6)

/-- The pointer on its way back up the frame. -/
theorem topAbove_delivered {n : Nat} (hn : n ≤ 6) : (s.delivered v).topAbove n = s.topBelow (6 - n) := by
  have hlt := stackTop_lt s
  have hup : (s.delivered v).topAbove n = (s.topBelow 6 + n) % s.stackModulus :=
    congrArg (fun k => (k + n) % s.stackModulus) (stackTop_delivered s v)
  rw [hup, State.topBelow, State.topBelow]
  obtain hm | hm := stackModulus_cases s <;> rw [hm] at hlt ⊢ <;> omega

/-! The three words on their way back. -/

theorem popped_ip : (s.delivered v).mem.numberAt ((s.delivered v).stackAddress (s.delivered v).stackTop) 2 =
    s.eip.toNat % 2 ^ 16 := by
  rw [stackTop_delivered]
  exact (numberAt_of_memHolds (frame_holds_ip s (s.delivered v) rfl)).trans (Nat.mod_mod _ _)

theorem popped_cs : (s.delivered v).mem.numberAt ((s.delivered v).stackAddress ((s.delivered v).topAbove 2)) 2 =
    s.seg.cs.selector.toNat := by
  rw [topAbove_delivered s v (by decide)]
  exact (numberAt_of_memHolds (frame_holds_cs s (s.delivered v) rfl)).trans (Nat.mod_eq_of_lt s.seg.cs.selector.isLt)

theorem popped_flags : (s.delivered v).mem.numberAt ((s.delivered v).stackAddress ((s.delivered v).topAbove 4)) 2 =
    s.eflags.toNat % 2 ^ 16 := by
  rw [topAbove_delivered s v (by decide)]
  exact (numberAt_of_memHolds (frame_holds_flags s (s.delivered v) rfl)).trans (Nat.mod_mod _ _)

/-- With the frame popped the general registers are what they were. -/
theorem returned_gpr : (s.delivered v).returned.gpr = s.gpr := by
  have htop : (s.delivered v).topAbove 6 = s.stackTop := topAbove_withTop_topBelow s (by decide)
  have hback : (s.withTop (s.topBelow 6)).withTop s.stackTop = s := by
    rw [withTop_withTop (topBelow_lt s 6), withTop_stackTop]
  calc (s.delivered v).returned.gpr
      = ((s.withTop (s.topBelow 6)).withTop ((s.delivered v).topAbove 6)).gpr := rfl
    _ = s.gpr := by rw [htop, hback]

theorem returned_seg (hreal : s.pe = false) : (s.delivered v).returned.seg =
    s.seg.set .cs (s.segmentFor s.seg.cs.selector.toNat) := by
  have hreal' : (s.delivered v).pe = false := hreal
  rw [← segmentFor_of_real hreal hreal', ← popped_cs s v]
  rfl

/-- FLAGS come back bit for bit, the fixed bits being fixed before (10_state.md R34). -/
theorem returned_flags (hfixed : eflagsFixed s.eflags = true) {k : Nat} (hk : k < 16) :
    (s.delivered v).returned.eflags.getLsbD k = s.eflags.getLsbD k := by
  have hflags : (s.delivered v).returned.eflags =
      eflagsWrite ((s.delivered v).eflags.extractLsb' 16 16 ++ BitVec.ofNat 16 (s.eflags.toNat % 2 ^ 16)) := by
    rw [← popped_flags s v]
    rfl
  have hlow : (BitVec.ofNat 16 (s.eflags.toNat % 2 ^ 16)).getLsbD k = s.eflags.getLsbD k := by
    rw [BitVec.getLsbD_ofNat, Nat.testBit_mod_two_pow, BitVec.testBit_toNat]
    simp [hk]
  have hwhole := eflagsWrite_getLsbD s.eflags (k := k) (by omega)
  rw [(eflagsFixed_iff _).1 hfixed] at hwhole
  rw [hflags, eflagsWrite_getLsbD _ (by omega), BitVec.getLsbD_append, if_pos hk, hlow, ← hwhole]

end

/-- Settles O57: the words of the frame are read back from where they were pushed. -/
theorem returnReversesDelivery : Obligations.ReturnReversesDelivery := by
  intro s t v hreal hfixed h
  cases (deliver_eq hreal v).symm.trans h
  have hseg := returned_seg s v hreal
  refine ⟨_, leaveVector_eq hreal, returned_gpr s v,
    congrArg (BitVec.ofNat 32) (popped_ip s v), ?_, fun x hx => ?_,
    fun k hk => returned_flags s v hfixed hk, rfl⟩
  · rw [hseg]
    rfl
  · rw [hseg, seg_get_set_ne _ _ hx]

end Sys2Proof.Machine
end

section
/-! What answers `InvalidOperand`: of Evaluate, of Store, and of a whole record (42_operands_move.md R166,
60_exceptions.md R239). -/

namespace Sys2Proof

/-! The operands of a record by position (R117). -/

theorem OpClass.arity_pos (c : OpClass) : 0 < c.arity := by cases c <;> decide

theorem OpClass.arity_le_two (c : OpClass) : c.arity ≤ 2 := by cases c <;> decide

/-- No operand that the record's class takes is of undefined kind; none is missing, either. -/
def Record.operandsDefined (r : Record) : Prop := ∀ k, k < r.op.arity → r.operand k ≠ .undefinedKind

section
variable {r : Record}

theorem operandsDefined_one (harity : r.op.arity = 1) (h0 : r.operand 0 ≠ .undefinedKind) : r.operandsDefined := by
  intro k hk
  obtain rfl : k = 0 := by omega
  exact h0

theorem operandsDefined_two (h0 : r.operand 0 ≠ .undefinedKind) (h1 : r.operand 1 ≠ .undefinedKind) :
    r.operandsDefined := by
  intro k hk
  have hle := r.op.arity_le_two
  obtain rfl | rfl : k = 0 ∨ k = 1 := by omega
  · exact h0
  · exact h1

theorem operand_of_getElem? {k : Nat} {o : Operand} (h : r.opnd[k]? = some o) : r.operand k = o := by
  simp [Record.operand, h]

theorem operand_of_head? {o : Operand} (h : r.opnd.head? = some o) : r.operand 0 = o :=
  operand_of_getElem? (by rwa [← List.head?_eq_getElem?])

theorem operand_mem {k : Nat} (hk : k < r.opnd.length) : r.operand k ∈ r.opnd := by
  simp [Record.operand, List.getD_eq_getElem?_getD, hk]

theorem head?_eq_operand (h : 0 < r.opnd.length) : r.opnd.head? = some (r.operand 0) := by
  simp [Record.operand, List.head?_eq_getElem?, List.getD_eq_getElem?_getD, h]

theorem operand_missing {k : Nat} (hk : r.opnd.length ≤ k) : r.operand k = .undefinedKind := by
  simp [Record.operand, List.getD_eq_getElem?_getD, hk]

end

theorem bytesOf_zero (n : Nat) : bytesOf n 0 = List.replicate n 0 := by
  induction n with
  | zero => rfl
  | succ n ih => rw [bytesOf, Nat.zero_div, ih]; rfl

end Sys2Proof

namespace Sys2Proof.Machine

/-! Evaluate and Store (R166). -/

section
variable {s t : State} {g : Option Sreg} {o : Operand}

theorem evaluate_ok_defined {n : Nat} {v : OperandValue} (h : s.evaluate g o n = .ok v) : o ≠ .undefinedKind := by
  rintro rfl
  cases h

/-- Only a register or memory can be stored to. -/
theorem store_ok_destination {v : OperandValue} (h : s.store g o v = .ok t) :
    o ≠ .undefinedKind ∧ ¬ o.isConstant := by
  cases o with
  | reg _ | mem _ _ _ _ _ => exact ⟨nofun, nofun⟩
  | imm _ _ | far _ _ _ | undefinedKind => cases h

theorem store_constant (ho : o.isConstant) (v : OperandValue) :
    s.store g o v = .error (.invalidOperand .immediateDestination o) := by
  cases o with
  | imm _ _ | far _ _ _ => rfl
  | reg _ | mem _ _ _ _ _ | undefinedKind => exact ho.elim

/-- What a Store that fails was given: a segment register, a constant, or an operand of undefined kind. -/
theorem store_error {v : OperandValue} {e : Fault} (h : s.store g o v = .error e) :
    (∃ id sel, o = .reg id ∧ e = .unsupportedFeature .ldtSelector sel) ∨
    (o.isConstant ∧ e = .invalidOperand .immediateDestination o) ∨
    (o = .undefinedKind ∧ e = .invalidOperand .undefinedKind .undefinedKind) := by
  cases o with
  | reg id =>
    obtain ⟨x, -, hx⟩ := writeRegister_error h
    exact .inl ⟨id, _, rfl, (resolve_error hx).2.2⟩
  | mem _ _ _ _ _ => cases h
  | imm _ _ | far _ _ _ => cases h; exact .inr (.inl ⟨trivial, rfl⟩)
  | undefinedKind => cases h; exact .inr (.inr ⟨rfl, rfl⟩)

end

/-! What a record's step can fail with, and what it has read and stored to where it does not fail (R239). -/

/-- The failures a record can have, by its opcode class and its operands. -/
inductive Fails (r : Record) : Fault → Prop
  | undefinedKind {k : Nat} (hk : k < r.op.arity) (ho : r.operand k = .undefinedKind) :
      Fails r (.invalidOperand .undefinedKind .undefinedKind)
  | constant (hop : r.op ≠ .push) (ho : (r.operand 0).isConstant) :
      Fails r (.invalidOperand .immediateDestination (r.operand 0))
  | notMemory (hop : r.op = .lgdt ∨ r.op = .lidt) (ho : ¬ (r.operand 0).isMem) :
      Fails r (.invalidOperand .notMemory (r.operand 0))
  | segment {id : Nat} (sel : Half) (ho : r.operand 0 = .reg id) (hdef : r.operandsDefined) :
      Fails r (.unsupportedFeature .ldtSelector sel)

theorem bind_error {α β : Type} {x : Except Fault α} {f : α → Except Fault β} {e : Fault} (h : x >>= f = .error e) :
    x = .error e ∨ ∃ a, x = .ok a ∧ f a = .error e := by
  cases x with
  | error e' => cases h; exact .inl rfl
  | ok a => exact .inr ⟨a, rfl, h⟩

section
variable {r : Record} {s : State} {e : Fault}

theorem evaluate_fails {g : Option Sreg} {k n : Nat} (hk : k < r.op.arity)
    (h : s.evaluate g (r.operand k) n = .error e) : Fails r e := by
  obtain ⟨ho, rfl⟩ := evaluate_error h
  exact .undefinedKind hk ho

theorem store_fails {g : Option Sreg} {v : OperandValue} (hop : r.op ≠ .push)
    (hdef : r.operand 0 ≠ .undefinedKind → r.operandsDefined) (h : s.store g (r.operand 0) v = .error e) :
    Fails r e := by
  obtain ⟨id, sel, ho, rfl⟩ | ⟨ho, rfl⟩ | ⟨ho, rfl⟩ := store_error h
  · exact .segment sel ho (hdef (by rw [ho]; nofun))
  · exact .constant hop ho
  · exact .undefinedKind r.op.arity_pos ho

theorem movStep_fails (hop : r.op = .mov) (h : movStep r s = .error e) : Fails r e := by
  have harity : 1 < r.op.arity := by rw [hop]; decide
  obtain he | ⟨v, hv, h⟩ := bind_error h
  · exact evaluate_fails harity he
  · exact store_fails (by simp [hop]) (operandsDefined_two · (evaluate_ok_defined hv)) h

theorem aluStep_fails {x : AluOp} (h : aluStep x r s = .error e) (hop : r.op = x.opClass) : Fails r e := by
  have harity : 1 < r.op.arity := by rw [hop]; cases x <;> decide
  have hpush : r.op ≠ .push := by rw [hop]; cases x <;> decide
  obtain he | ⟨a, ha, h⟩ := bind_error h
  · exact evaluate_fails r.op.arity_pos he
  obtain he | ⟨b, hb, h⟩ := bind_error h
  · exact evaluate_fails harity he
  obtain he | ⟨t, -, h⟩ := bind_error h
  · exact store_fails hpush (operandsDefined_two · (evaluate_ok_defined hb)) he
  · cases h

theorem incDecStep_fails {f : (w : Nat) → BitVec w → Word → BitVec w × Word} (hop : r.op = .inc ∨ r.op = .dec)
    (h : incDecStep f r s = .error e) : Fails r e := by
  have harity : r.op.arity = 1 := by obtain hop | hop := hop <;> rw [hop] <;> rfl
  have hpush : r.op ≠ .push := by obtain hop | hop := hop <;> simp [hop]
  obtain he | ⟨a, ha, h⟩ := bind_error h
  · exact evaluate_fails r.op.arity_pos he
  obtain he | ⟨t, -, h⟩ := bind_error h
  · exact store_fails hpush (operandsDefined_one harity) he
  · cases h

theorem shiftStep_fails {f : (w : Nat) → BitVec w → Nat → Word → BitVec w × Word} (hop : r.op = .shl ∨ r.op = .shr)
    (h : shiftStep f r s = .error e) : Fails r e := by
  have harity : 1 < r.op.arity := by obtain hop | hop := hop <;> rw [hop] <;> decide
  have hpush : r.op ≠ .push := by obtain hop | hop := hop <;> simp [hop]
  obtain he | ⟨a, ha, h⟩ := bind_error h
  · exact evaluate_fails r.op.arity_pos he
  obtain he | ⟨c, hc, h⟩ := bind_error h
  · exact evaluate_fails harity he
  dsimp only at h
  split at h
  · cases h
  obtain he | ⟨t, -, h⟩ := bind_error h
  · exact store_fails hpush (operandsDefined_two · (evaluate_ok_defined hc)) he
  · cases h

theorem pushStep_fails (h : pushStep r s = .error e) : Fails r e := by
  obtain he | ⟨v, -, h⟩ := bind_error h
  · exact evaluate_fails r.op.arity_pos he
  · cases h

theorem popStep_fails (hop : r.op = .pop) (h : popStep r s = .error e) : Fails r e :=
  store_fails (by simp [hop]) (operandsDefined_one (by rw [hop]; rfl)) h

/-- LGDT and LIDT fail for every operand that is not memory, and for no other (R150, R151). -/
theorem tableImage_error_iff : tableImage r s = .error e ↔
    ¬ (r.operand 0).isMem ∧ e = .invalidOperand .notMemory (r.operand 0) := by
  rw [tableImage]
  cases r.operand 0 with
  | mem _ _ _ _ _ => exact ⟨nofun, fun h => absurd trivial h.1⟩
  | reg _ | imm _ _ | far _ _ _ | undefinedKind =>
    exact ⟨fun h => ⟨nofun, (Except.error.inj h).symm⟩, fun h => congrArg Except.error h.2.symm⟩

theorem tableStep_error_iff (hop : r.op = .lgdt ∨ r.op = .lidt) : recordStep r s = .error e ↔
    ¬ (r.operand 0).isMem ∧ e = .invalidOperand .notMemory (r.operand 0) := by
  rw [← tableImage_error_iff (s := s)]
  obtain hop | hop := hop <;> rw [recordStep, hop]
  · change lgdtStep r s = _ ↔ _
    rw [lgdtStep]
    cases tableImage r s <;> simp [bind, Except.bind, pure, Except.pure]
  · change lidtStep r s = _ ↔ _
    rw [lidtStep]
    cases tableImage r s <;> simp [bind, Except.bind, pure, Except.pure]

/-- Every failure of a record is one that `Fails` lists. -/
theorem recordStep_fails (h : recordStep r s = .error e) : Fails r e := by
  cases hop : r.op
  case lgdt | lidt =>
    obtain ⟨hmem, rfl⟩ := (tableStep_error_iff (by simp [hop])).1 h
    exact .notMemory (by simp [hop]) hmem
  all_goals rw [recordStep, hop] at h
  case mov => exact movStep_fails hop h
  case add | or | adc | sbb | and | sub | xor => exact aluStep_fails h hop
  case inc => exact incDecStep_fails (.inl hop) h
  case dec => exact incDecStep_fails (.inr hop) h
  case shl => exact shiftStep_fails (.inl hop) h
  case shr => exact shiftStep_fails (.inr hop) h
  case push => exact pushStep_fails h
  case pop => exact popStep_fails hop h

/-- A record that does not fail has no operand of undefined kind (R166). -/
theorem recordStep_ok_defined {t : State} (h : recordStep r s = .ok t) : r.operandsDefined := by
  cases hop : r.op
  case lgdt | lidt =>
    refine operandsDefined_one (by rw [hop]; rfl) fun ho => ?_
    have hfails := (tableStep_error_iff (r := r) (s := s) (by simp [hop])).2 ⟨by rw [ho]; exact id, rfl⟩
    cases h.symm.trans hfails
  all_goals rw [recordStep, hop] at h
  case mov =>
    obtain ⟨v, hv, hu⟩ := movStep_ok h
    exact operandsDefined_two (store_ok_destination hu).1 (evaluate_ok_defined hv)
  case add | or | adc | sbb | and | sub | xor =>
    obtain ⟨a, b, u, ha, hb, -, -⟩ := aluStep_ok h
    exact operandsDefined_two (evaluate_ok_defined ha) (evaluate_ok_defined hb)
  case inc | dec =>
    obtain ⟨a, u, ha, -, -⟩ := incDecStep_ok h
    exact operandsDefined_one (by rw [hop]; rfl) (evaluate_ok_defined ha)
  case shl | shr =>
    obtain ⟨a, c, ha, hc, -⟩ := shiftStep_ok h
    exact operandsDefined_two (evaluate_ok_defined ha) (evaluate_ok_defined hc)
  case push =>
    obtain ⟨v, hv, -⟩ := pushStep_ok h
    exact operandsDefined_one (by rw [hop]; rfl) (evaluate_ok_defined hv)
  case pop => exact operandsDefined_one (by rw [hop]; rfl) (store_ok_destination h).1

/-- Where the class always stores, a record that does not fail has a destination to store to (R166). -/
theorem recordStep_ok_destination {t : State} (h : recordStep r s = .ok t)
    (hstores : r.op ∈ [OpClass.mov, .add, .or, .adc, .sbb, .and, .sub, .xor, .inc, .dec, .pop]) :
    ¬ (r.operand 0).isConstant := by
  cases hop : r.op
  case shl | shr | push | lgdt | lidt => rw [hop] at hstores; exact absurd hstores (by decide)
  all_goals rw [recordStep, hop] at h
  case mov =>
    obtain ⟨v, -, hu⟩ := movStep_ok h
    exact (store_ok_destination hu).2
  case add | or | adc | sbb | and | sub | xor =>
    obtain ⟨a, b, u, -, -, hu, -⟩ := aluStep_ok h
    exact (store_ok_destination hu).2
  case inc | dec =>
    obtain ⟨a, u, -, hu, -⟩ := incDecStep_ok h
    exact (store_ok_destination hu).2
  case pop => exact (store_ok_destination h).2

/-! Of a whole record (R239). -/

/-- A record answers a next state or fails as its step does. -/
theorem runRecord_fault_iff : runRecord r s = .fault e ↔ recordStep r s = .error e := by
  rw [runRecord_eq_complete, complete_fault]

/-- An operand of undefined kind makes a record fail with `InvalidOperand`. -/
theorem runRecord_undefinedKind {k : Nat} (hk : k < r.op.arity) (ho : r.operand k = .undefinedKind) :
    ∃ x o, runRecord r s = .fault (.invalidOperand x o) := by
  cases h : recordStep r s with
  | ok t => exact absurd ho (recordStep_ok_defined h k hk)
  | error e =>
    have hf := recordStep_fails h
    rw [← runRecord_fault_iff] at h
    cases hf with
    | undefinedKind _ _ | constant _ _ | notMemory _ _ => exact ⟨_, _, h⟩
    | segment _ _ hdef => exact absurd ho (hdef k hk)

/-- A constant destination makes a record of a class that always stores fail so, if its operands are there. -/
theorem runRecord_constant (hdef : r.operandsDefined) (ho : (r.operand 0).isConstant)
    (hstores : r.op ∈ [OpClass.mov, .add, .or, .adc, .sbb, .and, .sub, .xor, .inc, .dec, .pop]) :
    runRecord r s = .fault (.invalidOperand .immediateDestination (r.operand 0)) := by
  cases h : recordStep r s with
  | ok t => exact absurd ho (recordStep_ok_destination h hstores)
  | error e =>
    have hf := recordStep_fails h
    rw [← runRecord_fault_iff] at h
    cases hf with
    | constant _ _ => exact h
    | undefinedKind hk hu => exact absurd hu (hdef _ hk)
    | notMemory hop _ => obtain hop | hop := hop <;> rw [hop] at hstores <;> exact absurd hstores (by decide)
    | segment _ hreg _ => rw [hreg] at ho; exact ho.elim

/-- A record that has its operands fails with `InvalidOperand` for no other cause. -/
theorem invalidAs_of_fails {k : Invalid} {o : Operand} (hlen : r.op.arity ≤ r.opnd.length)
    (h : Fails r (.invalidOperand k o)) : r.invalidAs k o := by
  have hhead := head?_eq_operand (r.op.arity_pos.trans_le hlen)
  cases h with
  | undefinedKind hk ho => exact ⟨rfl, ho ▸ operand_mem (hk.trans_le hlen)⟩
  | constant hop ho => exact ⟨ho, hhead, hop⟩
  | notMemory hop ho => exact ⟨ho, hhead, hop⟩

end

/-- Settles O22: what a record can fail with, and what it has read and stored to where it does not fail. -/
theorem invalidOperandCauses : Obligations.InvalidOperandCauses := by
  refine ⟨fun s g v o ho => store_constant ho v, fun s g v n => ⟨rfl, rfl⟩,
    fun s g op n v k o => ⟨fun h => (evaluate_error h).1, fun h => ?_⟩, fun s g id n v hid => ?_,
    fun s r o hop hhead hmem => ?_, fun s r k hk ho => runRecord_undefinedKind hk (operand_of_getElem? ho),
    fun s r o hstores hhead ho hlen hundef => ?_,
    fun s r k o hlen h => invalidAs_of_fails hlen (recordStep_fails (runRecord_fault_iff.1 h)),
    fun s r hlen => runRecord_undefinedKind hlen (operand_missing le_rfl)⟩
  · obtain ⟨id, sel, -, he⟩ | ⟨ho, -⟩ | ⟨ho, -⟩ := store_error h
    · cases he
    · exact .inr ho
    · exact .inl ho
  · have hview := ofId_absent hid
    constructor
    · rw [State.evaluate, registerValue_of_view hview, State.viewValue, bytesOf_zero]
    · rw [store_reg, hview, State.writeView]
  · obtain rfl := operand_of_head? hhead
    exact ⟨.notMemory, runRecord_fault_iff.2 ((tableStep_error_iff hop).2 ⟨hmem, rfl⟩), fun _ => rfl⟩
  · obtain rfl := operand_of_head? hhead
    exact runRecord_constant (fun k hk hu => hundef (hu ▸ operand_mem (hk.trans_le hlen))) ho hstores

end Sys2Proof.Machine
end
